-- ==== Sys2Proof/Word.lean ====
section
/-! DEFINITION. The widths of the block's data: bytes, readings, the request control word and the payload lanes. -/

namespace Sys2Proof

/-- A byte, the width of the datapath (00_scope.md R6, R7). -/
abbrev Byte := BitVec 8

/-- A raw reading, tenths of μg/m³ (10_state.md R21, R28). -/
abbrev Half := BitVec 16

/-- The request control word REQ_CTRL (30_encoding.md R70). -/
abbrev Ctrl := BitVec 32

/-- Twelve bytes: the payload lanes REQ_PAYLOAD[0..11] (30_encoding.md R71) and the operand view Opnd (R73). -/
abbrev Lanes := Vector Byte 12

/-- A response frame's ten bytes (30_encoding.md R82). -/
abbrev RespFrame := Vector Byte 10

/-- A command frame's nineteen bytes (30_encoding.md R80). -/
abbrev CmdFrame := Vector Byte 19

end Sys2Proof
end

