-- ==== Sys2Proof/Syntax.lean ====
section
/-! DEFINITION. Syntax: the six requests of spec/opcode_table.json, and the assembler's source forms (30_encoding.md R90, R91). -/

namespace Sys2Proof

/-- A request, one constructor per row of spec/opcode_table.json. Every constructor carries all the fields of
the one request format (30_encoding.md R70, R71), those its operation ignores too (R74 lets them hold any value),
so that no bit of a request is lost between decoding and encoding (log entry 17). -/
inductive Instr where
  /-- ENCODE, OP 0x1: the frame encoder (40_frame_codec.md R106). -/
  | encode (cmd plen : Byte) (lanes : List Byte)
  /-- CKSUM.C, OP 0x2: the command checksum generator (40_frame_codec.md R104). -/
  | cksumC (cmd plen : Byte) (lanes : List Byte)
  /-- CKSUM.R, OP 0x3: the response checksum generator (40_frame_codec.md R105). -/
  | cksumR (cmd plen : Byte) (lanes : List Byte)
  /-- FINDSTART, OP 0x4: find the next frame header (41_stream_reader.md R131). -/
  | findstart (cmd plen : Byte) (lanes : List Byte)
  /-- READFRAME, OP 0x5: deserialize one response frame (42_response_decoder.md R160). -/
  | readframe (cmd plen : Byte) (lanes : List Byte)
  /-- DECODE, OP 0x6: decode a query response (42_response_decoder.md R170). -/
  | decode (cmd plen : Byte) (lanes : List Byte)
deriving DecidableEq, Repr

/-- What stands on the request port: the control word and the twelve lanes (30_encoding.md R70, R71, R76). -/
structure Request where
  ctrl : Ctrl
  lanes : Lanes
deriving DecidableEq, Repr

/-- The command names of 30_encoding.md R81. -/
inductive CmdName where
  | mode | queryData | deviceId | sleep | firmware | workingPeriod
deriving DecidableEq, Repr

/-- The assembler's operand <cmd>: a byte, or a name of R81 (30_encoding.md R90). -/
inductive CmdOperand where
  | byte (b : Byte)
  | name (n : CmdName)
deriving DecidableEq, Repr

/-- The assembler's source forms: the six requests of 30_encoding.md R90 and the four pseudo-instructions of R91. -/
inductive Asm where
  | encode (cmd : CmdOperand) (bs : List Byte)
  | cksumC (cmd : CmdOperand) (bs : List Byte)
  | cksumR (bs : List Byte)
  | findstart
  | readframe
  | decode (bs : List Byte)
  | query
  | setMode (m : Nat)
  | setSleep (sleep : Bool)
  | setPeriod (p : Nat)
deriving DecidableEq, Repr

end Sys2Proof
end

