-- ==== Sys2Proof/WellFormed.lean ====
section
/-! DEFINITION. Well-formedness of requests and of the assembler's source forms. -/

namespace Sys2Proof

/-- The lanes a request carries. -/
def Instr.lanes : Instr → List Byte
  | .encode _ _ l => l
  | .cksumC _ _ l => l
  | .cksumR _ _ l => l
  | .findstart _ _ l => l
  | .readframe _ _ l => l
  | .decode _ _ l => l

/-- A request has exactly twelve payload lanes (30_encoding.md R71, R76). Every value of every other field is
admitted (R74), and their widths are their types'. -/
def Instr.wf (i : Instr) : Bool := i.lanes.length == 12

/-- What the assembler accepts: a list length k with k <= 255 (30_encoding.md R90), and mode and period operands
0..255 (R91). -/
def Asm.wf : Asm → Bool
  | .encode _ bs => bs.length ≤ 255
  | .cksumC _ bs => bs.length ≤ 255
  | .cksumR bs => bs.length ≤ 255
  | .decode bs => bs.length ≤ 255
  | .setMode m => m ≤ 255
  | .setPeriod p => p ≤ 255
  | .findstart => true
  | .readframe => true
  | .query => true
  | .setSleep _ => true

end Sys2Proof
end

