-- ==== Sys2Proof/Decode.lean ====
section
/-! DEFINITION. The request decoder (total, rejecting by name) and, after it, the encoder (30_encoding.md sections 1 to 3). -/

namespace Sys2Proof

/-! ## The opcode table -/

/-- One row of spec/opcode_table.json. -/
structure OpRow where
  mnemonic : String
  mask : Ctrl
  pattern : Ctrl
  op : BitVec 4
deriving DecidableEq, Repr

/-- The opcode table: "The selecting pattern of OP = k is REQ_CTRL & 0xFF0000FF == k" (30_encoding.md R72). -/
def opTable : List OpRow :=
  [⟨"ENCODE", 0xFF0000FF, 0x00000001, 0x1⟩,
   ⟨"CKSUM.C", 0xFF0000FF, 0x00000002, 0x2⟩,
   ⟨"CKSUM.R", 0xFF0000FF, 0x00000003, 0x3⟩,
   ⟨"FINDSTART", 0xFF0000FF, 0x00000004, 0x4⟩,
   ⟨"READFRAME", 0xFF0000FF, 0x00000005, 0x5⟩,
   ⟨"DECODE", 0xFF0000FF, 0x00000006, 0x6⟩]

/-! ## Fields of the control word (30_encoding.md R70) -/

/-- OP, bits [3:0]. -/
def ctrlOp (c : Ctrl) : BitVec 4 := c.extractLsb' 0 4

/-- The reserved bits [7:4]. -/
def ctrlReservedLow (c : Ctrl) : BitVec 4 := c.extractLsb' 4 4

/-- CMD, bits [15:8]. -/
def ctrlCmd (c : Ctrl) : Byte := c.extractLsb' 8 8

/-- PLEN, bits [23:16]. -/
def ctrlPlen (c : Ctrl) : Byte := c.extractLsb' 16 8

/-- The reserved bits [31:24]. -/
def ctrlReservedHigh (c : Ctrl) : Byte := c.extractLsb' 24 8

/-! ## Decoding -/

/-- Why a control word is illegal (30_encoding.md R75). All three complete with ILLEGAL_OP. -/
inductive DecodeError where
  /-- OP is 0x0 or any of 0x7..0xF. -/
  | reservedOp
  /-- Bits [7:4] are not 0. -/
  | reservedLow
  /-- Bits [31:24] are not 0. -/
  | reservedHigh
deriving DecidableEq, Repr

/-- The request an op code selects (30_encoding.md R72); 0x0 and 0x7..0xF are reserved (R75). -/
def requestOf (op : BitVec 4) (cmd plen : Byte) (lanes : List Byte) : Except DecodeError Instr :=
  match op with
  | 0x1#4 => .ok (.encode cmd plen lanes)
  | 0x2#4 => .ok (.cksumC cmd plen lanes)
  | 0x3#4 => .ok (.cksumR cmd plen lanes)
  | 0x4#4 => .ok (.findstart cmd plen lanes)
  | 0x5#4 => .ok (.readframe cmd plen lanes)
  | 0x6#4 => .ok (.decode cmd plen lanes)
  | _ => .error .reservedOp

/-- The request on the port, or the name of what makes its control word illegal (30_encoding.md R70 to R76). Which
name is given when several apply is no matter: the block's answer is the same (log entry 19). -/
def decode (c : Ctrl) (lanes : Lanes) : Except DecodeError Instr :=
  if ctrlReservedLow c ≠ 0 then .error .reservedLow
  else if ctrlReservedHigh c ≠ 0 then .error .reservedHigh
  else requestOf (ctrlOp c) (ctrlCmd c) (ctrlPlen c) lanes.toList

/-- Lanes from a list: lane i is its i-th byte, and a byte the list lacks is 0x00 (30_encoding.md R90: "Every
other lane is 0x00"). -/
def lanesOf (bs : List Byte) : Lanes := Vector.ofFn fun i => bs.getD i.val 0

/-- The control word in a table word: its bits 31..0 (log entry 11). -/
def tableCtrl (nbits w : Nat) : Ctrl := BitVec.ofNat 32 (w % 2 ^ nbits)

/-- The lanes in a table word: lane i is bits 39+8i..32+8i, and bits above nbits are 0 (log entry 11). -/
def tableLanes (nbits w : Nat) : Lanes :=
  Vector.ofFn fun i => BitVec.ofNat 8 ((w % 2 ^ nbits) >>> (32 + 8 * i.val))

/-- The instruction the decoder reads from a table word; every bit above nbits is 0. -/
def decodeTableWord (nbits w : Nat) : Option Instr :=
  match decode (tableCtrl nbits w) (tableLanes nbits w) with
  | .ok i => some i
  | .error _ => none

/-! ## Encoding -/

/-- The op code of a request (30_encoding.md R72). -/
def Instr.op : Instr → BitVec 4
  | .encode .. => 0x1
  | .cksumC .. => 0x2
  | .cksumR .. => 0x3
  | .findstart .. => 0x4
  | .readframe .. => 0x5
  | .decode .. => 0x6

/-- The CMD field of a request. -/
def Instr.cmd : Instr → Byte
  | .encode c _ _ => c
  | .cksumC c _ _ => c
  | .cksumR c _ _ => c
  | .findstart c _ _ => c
  | .readframe c _ _ => c
  | .decode c _ _ => c

/-- The PLEN field of a request. -/
def Instr.plen : Instr → Byte
  | .encode _ p _ => p
  | .cksumC _ p _ => p
  | .cksumR _ p _ => p
  | .findstart _ p _ => p
  | .readframe _ p _ => p
  | .decode _ p _ => p

/-- "REQ_CTRL = zext_32(PLEN) << 16 | zext_32(CMD) << 8 | zext_32(OP), with both reserved fields zero"
(30_encoding.md R70). -/
def packCtrl (op : BitVec 4) (cmd plen : Byte) : Ctrl :=
  (plen.setWidth 32 <<< 16) ||| (cmd.setWidth 32 <<< 8) ||| op.setWidth 32

/-- The words of a well-formed request. -/
def encode (i : Instr) : Request := ⟨packCtrl i.op i.cmd i.plen, lanesOf i.lanes⟩

end Sys2Proof
end

