-- ==== Sys2Proof/Machine/Ports.lean ====
section
/-! DEFINITION. The block's ports (10_state.md R31) and the moves of the three agents (10_state.md R20, 00_scope.md R11). -/

namespace Sys2Proof.Machine

/-- The host's input lines (10_state.md R31). -/
structure HostPins where
  reqValid : Bool
  reqCtrl : Ctrl
  reqPayload : Lanes
  cancel : Bool
  rst : Bool
deriving DecidableEq, Repr, Inhabited

/-- The outputs the host can read: "every register of rule R21 except FSM_STATE and CUR_OP is readable by the
host" (10_state.md R31), STATUS_WORD and its BUSY (R34), and REQ_READY. -/
inductive OutReg where
  | statusWord | status | done | fault | busy | reqReady
  | frameValid | txValid | cksumValid | readingValid
  | attempts | rxLen
  | rxFrame (i : Fin 10) | txFrame (i : Fin 19)
  | cksumOut | pm25Raw | pm10Raw
deriving DecidableEq, Repr, Inhabited

/-- The transport's choice of an answer to the outstanding `StreamRead(n)` (20_memory.md R52). Each number is a
draw: what it asks for beyond what R52 admits is cut off (log entry 5). -/
inductive Answer where
  /-- `len` bytes from the head of `pending`, at most n and at most what is pending. -/
  | bytes (len : Nat)
  /-- ERROR; `lost` bytes are removed from the head of `pending`, at most n and at most what is pending. -/
  | error (lost : Nat)
deriving DecidableEq, Repr, Inhabited

/-- What an answer brings to the block: bytes, or ERROR (00_scope.md R10). -/
inductive Received where
  | bytes (bs : List Byte)
  | error
deriving DecidableEq, Repr, Inhabited

/-- One move of one agent. The first four are the block's step kinds (00_scope.md R11), the rest the host's and the
transport's own moves. A move that is not enabled changes nothing (log entry 4). -/
inductive Move where
  /-- The block accepts the presented request (10_state.md R32). -/
  | accept
  /-- The transport answers the outstanding read, and the block applies the answer (R134, R161). -/
  | answer (a : Answer)
  /-- The backoff wait ends (41_stream_reader.md R137). -/
  | expire
  /-- The reset step; `lost` bytes had been removed for an abandoned read (70_reset_and_hazards.md R230, R231). -/
  | reset (lost : Nat)
  /-- Bytes arrive at the end of `pending` (20_memory.md R51). -/
  | arrive (bs : List Byte)
  /-- The host drives its lines (10_state.md R31). -/
  | drive (p : HostPins)
  /-- The host reads an output register (10_state.md R30, R31). -/
  | hostRead (r : OutReg)
deriving DecidableEq, Repr, Inhabited

end Sys2Proof.Machine
end

