-- ==== Sys2Proof/Config.lean ====
section
/-! DEFINITION. Configuration: the implementation parameters (00_scope.md R6, 10_state.md R38) and the free values, which have no body. -/

namespace Sys2Proof

/-- The parameters of 00_scope.md R6, fixed for a run (10_state.md R38). -/
structure Params where
  /-- SCAN_BUDGET: attempts a scan may make, at least 1. -/
  scanBudget : Nat
  /-- STRICT_CHECKSUM (92_eei_decisions.md D9). -/
  strictChecksum : Bool
  /-- ALLOW_ANY_CMD (92_eei_decisions.md D7). -/
  allowAnyCmd : Bool
  /-- BACKOFF in milliseconds: "No rule in this spec depends on the value of BACKOFF" (R6). -/
  backoffMs : Nat
  /-- BODY_TIMEOUT in milliseconds: OPEN, the transport's (92_eei_decisions.md D12). -/
  bodyTimeoutMs : Option Nat
deriving DecidableEq, Repr

/-- The defaults of 00_scope.md R6. -/
def Config.defaults : Params :=
  { scanBudget := 100, strictChecksum := false, allowAnyCmd := false, backoffMs := 100, bodyTimeoutMs := none }

/-- FREE VALUE: the agents' next move where the agenda is empty and the block has neither an accept nor a reset to
take; the argument counts the draws (log entry 3). When bytes arrive, whether and how a read is answered, when a
backoff expires and what the host does are "under no law" (20_memory.md R51, R52, 93_implementation_defined.md I4 to I7). -/
opaque Config.freeMove : Nat → Machine.Move

/-- FREE VALUE: how many bytes an abandoned read had taken when a reset comes with the agenda empty (70_reset_and_hazards.md
R231, 93_implementation_defined.md I5); the argument counts the draws (log entry 3). -/
opaque Config.freeLost : Nat → Nat

end Sys2Proof
end

