-- ==== Sys2Proof/Machine/Operands.lean ====
section
/-! DEFINITION. Operands and the pure functions over bytes: the operand view, the two checksums, the command frame, the fields of a response frame. -/

namespace Sys2Proof.Machine

/-! ## Constants (00_scope.md R6) -/

/-- HDR, the first byte of every frame. -/
def hdr : Byte := 0xAA

/-- CMD_ID, the second byte of a command frame. -/
def cmdId : Byte := 0xB4

/-- PAD_ID, bytes 15 and 16 of a command frame. -/
def padId : Byte := 0xFF

/-- TAIL, the last byte of every frame. -/
def tail : Byte := 0xAB

/-- QUERY_ACK, the response command byte of a measurement (30_encoding.md R83). -/
def queryAck : Byte := 0xC0

/-- PAYLOAD_MAX: payload bytes in a command frame. -/
def payloadMax : Nat := 12

/-- RESP_FRAME_LEN (90_conflicts.md C1). -/
def respFrameLen : Nat := 10

/-- BODY_LEN: bytes read after the header. -/
def bodyLen : Nat := 9

/-- CMD_CODES: MODE, QUERY_DATA, DEVICE_ID, SLEEP, FIRMWARE, WORKING_PERIOD. -/
def cmdCodes : List Byte := [0x02, 0x04, 0x05, 0x06, 0x07, 0x08]

/-! ## The operand view and command validity -/

/-- "Opnd[i] = (i < PLEN) ? REQ_PAYLOAD[i] : 0x00 for i in 0..11" (30_encoding.md R73). -/
def opnd (plen : Byte) (lanes : List Byte) : Lanes :=
  Vector.ofFn fun i => if i.val < plen.toNat then lanes.getD i.val 0 else 0

/-- CmdOK (40_frame_codec.md R107). -/
def cmdOK (p : Params) (c : Byte) : Bool := cmdCodes.contains c || p.allowAnyCmd

/-! ## Checksums -/

/-- sum(S): the integer sum of the bytes of S (00_scope.md R9). -/
def byteSum (bs : List Byte) : Nat := (bs.map BitVec.toNat).sum

/-- CmdChecksum(c, P) = (sum(P[0..11]) + c - 2) mod 256, on the integers (40_frame_codec.md R100; `BitVec.ofInt 8`
is the remainder in 0..255, for a negative argument too). -/
def cmdChecksum (c : Byte) (payload : Lanes) : Byte :=
  BitVec.ofInt 8 ((byteSum payload.toList : Int) + (c.toNat : Int) - 2)

/-- The sum of bytes 1..7, modulo 256. -/
def sumOneToSeven (b1 b2 b3 b4 b5 b6 b7 : Byte) : Byte :=
  BitVec.ofNat 8 (byteSum [b1, b2, b3, b4, b5, b6, b7])

/-- RespChecksum(F) = sum(F[1..7]) mod 256 (40_frame_codec.md R103), of a received frame. -/
def respChecksum (f : RespFrame) : Byte := sumOneToSeven f[1] f[2] f[3] f[4] f[5] f[6] f[7]

/-- RespChecksum of a frame given as the operand view (40_frame_codec.md R105). -/
def respChecksumOpnd (f : Lanes) : Byte := sumOneToSeven f[1] f[2] f[3] f[4] f[5] f[6] f[7]

/-! ## The command frame -/

/-- [0xAA, 0xB4, CMD] ++ P ++ [0xFF, 0xFF, cs, 0xAB] (40_frame_codec.md R106, 30_encoding.md R80). -/
def buildFrame (c : Byte) (p : Lanes) : CmdFrame :=
  #v[hdr, cmdId, c, p[0], p[1], p[2], p[3], p[4], p[5], p[6], p[7], p[8], p[9], p[10], p[11],
     padId, padId, cmdChecksum c p, tail]

/-! ## Fields of a response frame -/

/-- high * 256 + low (42_response_decoder.md R171; little-endian on the wire, 20_memory.md R55). -/
def rawReading (low high : Byte) : Half := BitVec.ofNat 16 (high.toNat * 256 + low.toNat)

/-- Pm25Raw(F): frame bytes 2 (low) and 3 (high) (42_response_decoder.md R171). -/
def pm25Of (f : Lanes) : Half := rawReading f[2] f[3]

/-- Pm10Raw(F): frame bytes 4 (low) and 5 (high) (42_response_decoder.md R171). -/
def pm10Of (f : Lanes) : Half := rawReading f[4] f[5]

/-- The reading in μg/m³ of a raw value, the exact rational raw / 10 (42_response_decoder.md R172). -/
def microgramsPerCubicMetre (raw : Half) : ℚ := (raw.toNat : ℚ) / 10

end Sys2Proof.Machine
end

