-- ==== Sys2Proof/Machine/State.lean ====
section
/-! DEFINITION. The machine's state: the block's registers (10_state.md R21), the host's lines, the transport's stream, the parameters and the scheduling data; and the state right after reset. -/

namespace Sys2Proof.Machine

/-- FSM_STATE, the block's analogue of a program counter (10_state.md R22). -/
inductive FsmState where
  /-- No operation is in progress. -/
  | idle
  /-- Scanning; a `StreamRead(1)` is outstanding. -/
  | scanReq
  /-- The scan's last attempt was an empty read; the backoff wait is running. -/
  | backoff
  /-- The header was found; a `StreamRead(9)` is outstanding. -/
  | bodyReq
deriving DecidableEq, Repr

/-- STATUS: the twelve codes of 60_exceptions.md R200. The reserved codes 0xC..0xF have no constructor: a model in
which STATUS holds one of them is wrong (93_implementation_defined.md I10). -/
inductive Status where
  | none | ok | invalidPayload | noSync | shortRead | transportError | notQueryAck | shortFrame
  | checksumMismatch | illegalOp | invalidCommand | cancelled
deriving DecidableEq, Repr

/-- How a step can stop the machine. -/
inductive Fault where
  /-- Raised by a host read (the move `hostRead`) of a register element that holds no value: "A model must treat a
  host read of such an element as a fault, never as a value" (10_state.md R30; so too 70_reset_and_hazards.md R230,
  93_implementation_defined.md I1 and I2, 92_eei_decisions.md D19). Safe: it is the spec's own fault. No request's
  meaning raises it. -/
  | readNoValue (r : OutReg)
deriving DecidableEq, Repr

/-- How a step can be refused. -/
inductive Refusal where
  /-- Raised by `exec` for a request that has no meaning yet. Safe: nothing is proved of it. No arm raises it now. -/
  | notModelled (mnemonic : String)
deriving DecidableEq, Repr

/-- The whole machine (INVENTORY.md, section State). -/
structure State where
  /-- FSM_STATE (R22). -/
  fsm : FsmState
  /-- CUR_OP, the op code of the accepted request (R23). -/
  curOp : BitVec 4
  /-- ATTEMPTS (R24), a count in a register of `attemptsWidth` bits, which follows SCAN_BUDGET (00_scope.md R7, log entry 9). -/
  attempts : Nat
  /-- RX_FRAME[0..9] (R25); elements at RX_LEN or above hold no value (R30). -/
  rxFrame : RespFrame
  /-- RX_LEN, 0..10 (R25). -/
  rxLen : BitVec 4
  /-- FRAME_VALID (R25). -/
  frameValid : Bool
  /-- TX_FRAME[0..18] (R26). -/
  txFrame : CmdFrame
  /-- TX_FRAME holds a value: written since reset (R30, log entry 2). -/
  txHolds : Bool
  /-- TX_VALID (R26). -/
  txValid : Bool
  /-- CKSUM_OUT (R27). -/
  cksumOut : Byte
  /-- CKSUM_OUT holds a value: written since reset (R30, log entry 2). -/
  cksumHolds : Bool
  /-- CKSUM_VALID (R27). -/
  cksumValid : Bool
  /-- PM25_RAW, tenths of μg/m³ (R28). -/
  pm25Raw : Half
  /-- PM10_RAW, tenths of μg/m³ (R28). -/
  pm10Raw : Half
  /-- PM25_RAW and PM10_RAW hold a value: written since reset (R30, log entry 2). -/
  readingHolds : Bool
  /-- READING_VALID (R28). -/
  readingValid : Bool
  /-- STATUS (R29). -/
  status : Status
  /-- DONE (R29). -/
  done : Bool
  /-- FAULT, sticky (R29). -/
  fault : Bool
  /-- The host's input lines (R31). -/
  pins : HostPins
  /-- The transport's stream: bytes arrived and not yet delivered (20_memory.md R51). -/
  pending : List Byte
  /-- The parameters, fixed for the run (R38). -/
  params : Params
  /-- The agents' next moves, first one next (log entry 3). -/
  agenda : List Move
  /-- How many free values have been drawn (log entry 3). -/
  draws : Nat
deriving DecidableEq, Repr

/-- The host's lines at reset: no request, no cancel, RST low (log entry 6). -/
def pinsAtReset : HostPins :=
  { reqValid := false, reqCtrl := 0, reqPayload := Vector.replicate 12 0, cancel := false, rst := false }

/-- The machine right after reset (70_reset_and_hazards.md R230). The contents of the registers that hold no value
are log entry 1's, and no host read returns them; lines and stream are log entry 6's. -/
def State.reset : State :=
  { fsm := .idle, curOp := 0, attempts := 0
    rxFrame := Vector.replicate 10 0, rxLen := 0, frameValid := false
    txFrame := Vector.replicate 19 0, txHolds := false, txValid := false
    cksumOut := 0, cksumHolds := false, cksumValid := false
    pm25Raw := 0, pm10Raw := 0, readingHolds := false, readingValid := false
    status := .none, done := false, fault := false
    pins := pinsAtReset, pending := [], params := Config.defaults, agenda := [], draws := 0 }

end Sys2Proof.Machine
end

