-- ==== Sys2Proof/Machine/Flags.lean ====
section
/-! DEFINITION. The flags: status codes, which are fatal, the handshake outputs, STATUS_WORD, and what a host read of an output register returns. -/

namespace Sys2Proof.Machine

/-- The code of a status (60_exceptions.md R200). -/
def Status.code : Status → BitVec 4
  | .none => 0x0
  | .ok => 0x1
  | .invalidPayload => 0x2
  | .noSync => 0x3
  | .shortRead => 0x4
  | .transportError => 0x5
  | .notQueryAck => 0x6
  | .shortFrame => 0x7
  | .checksumMismatch => 0x8
  | .illegalOp => 0x9
  | .invalidCommand => 0xA
  | .cancelled => 0xB

/-- "The fatal statuses are INVALID_PAYLOAD, ILLEGAL_OP and INVALID_COMMAND" (60_exceptions.md R201). -/
def Status.fatal : Status → Bool
  | .invalidPayload => true
  | .illegalOp => true
  | .invalidCommand => true
  | .none => false
  | .ok => false
  | .noSync => false
  | .shortRead => false
  | .transportError => false
  | .notQueryAck => false
  | .shortFrame => false
  | .checksumMismatch => false
  | .cancelled => false

/-- The encoding of FSM_STATE (10_state.md R21). -/
def FsmState.code : FsmState → BitVec 2
  | .idle => 0
  | .scanReq => 1
  | .backoff => 2
  | .bodyReq => 3

/-- BUSY: FSM_STATE != IDLE (10_state.md R34). -/
def State.busy (s : State) : Bool := s.fsm != .idle

/-- REQ_READY = (FSM_STATE = IDLE) and (FAULT = 0) (10_state.md R33). -/
def State.reqReady (s : State) : Bool := s.fsm == .idle && !s.fault

/-- The size n of the outstanding `StreamRead(n)`, 0 where there is none (10_state.md R37). -/
def State.outstanding (s : State) : Nat :=
  match s.fsm with
  | .scanReq => 1
  | .bodyReq => bodyLen
  | .idle => 0
  | .backoff => 0

/-- RD_REQ_VALID and RD_REQ_N: the outstanding read, and nothing where RD_REQ_VALID = 0 (10_state.md R31, log entry 14). -/
def State.rdReq (s : State) : Option (BitVec 4) :=
  match s.fsm with
  | .scanReq => some 1
  | .bodyReq => some 9
  | .idle => none
  | .backoff => none

/-- A one-bit field at bit `i` of STATUS_WORD. -/
def bitAt (i : Nat) (b : Bool) : Half := (BitVec.ofBool b).setWidth 16 <<< i

/-- STATUS_WORD (10_state.md R34): STATUS in [3:0], seven flags in [10:4], RX_LEN in [14:11], bit 15 hardwired 0. -/
def State.statusWord (s : State) : Half :=
  s.status.code.setWidth 16 ||| bitAt 4 s.done ||| bitAt 5 s.fault ||| bitAt 6 s.busy ||| bitAt 7 s.frameValid
    ||| bitAt 8 s.txValid ||| bitAt 9 s.cksumValid ||| bitAt 10 s.readingValid ||| (s.rxLen.setWidth 16 <<< 11)

/-- The width of ATTEMPTS: 7 bits, and ceil(log2(SCAN_BUDGET+1)) for a SCAN_BUDGET above 127 (00_scope.md R7). -/
def attemptsWidth (p : Params) : Nat := max 7 (Nat.clog 2 (p.scanBudget + 1))

/-- A register's value if it holds one; else the fault that 10_state.md R30 requires in place of any value
(93_implementation_defined.md I1 and I2, 92_eei_decisions.md D19). -/
def heldOr (holds : Bool) (r : OutReg) (v : Nat) : Except Fault Nat :=
  if holds then .ok v else .error (.readNoValue r)

/-- What a host read of an output returns, as an unsigned number (10_state.md R30, R31). -/
def State.readOut (s : State) (r : OutReg) : Except Fault Nat :=
  match r with
  | .statusWord => .ok s.statusWord.toNat
  | .status => .ok s.status.code.toNat
  | .done => .ok s.done.toNat
  | .fault => .ok s.fault.toNat
  | .busy => .ok s.busy.toNat
  | .reqReady => .ok s.reqReady.toNat
  | .frameValid => .ok s.frameValid.toNat
  | .txValid => .ok s.txValid.toNat
  | .cksumValid => .ok s.cksumValid.toNat
  | .readingValid => .ok s.readingValid.toNat
  | .attempts => .ok s.attempts
  | .rxLen => .ok s.rxLen.toNat
  | .rxFrame i => heldOr (i.val < s.rxLen.toNat) (.rxFrame i) s.rxFrame[i].toNat
  | .txFrame i => heldOr s.txHolds (.txFrame i) s.txFrame[i].toNat
  | .cksumOut => heldOr s.cksumHolds .cksumOut s.cksumOut.toNat
  | .pm25Raw => heldOr s.readingHolds .pm25Raw s.pm25Raw.toNat
  | .pm10Raw => heldOr s.readingHolds .pm10Raw s.pm10Raw.toNat

end Sys2Proof.Machine
end

