-- ==== Sys2Proof/Machine/Ops.lean ====
section
/-! DEFINITION. The named operations over registers and stream: the accept prelude (which is also the return from a completion), completion ("taking an exception"), the deliveries of the stream, the writes of the result registers, and reset. -/

namespace Sys2Proof.Machine

/-! ## Completion and the accept that follows it -/

/-- raise S(): the only way an operation ends (60_exceptions.md R203). STATUS takes the code, a fatal status sets
FAULT, DONE is set and the block returns to IDLE. -/
def State.complete (st : Status) (s : State) : State :=
  { s with status := st, fault := s.fault || st.fatal, done := true, fsm := .idle }

/-- The start of an accept (10_state.md R32): DONE and STATUS are cleared and CUR_OP takes the op code. It is also the
return from the last completion (60_exceptions.md R206). -/
def State.beginOp (op : BitVec 4) (s : State) : State :=
  { s with done := false, status := .none, curOp := op }

/-! ## The scan -/

/-- ScanStart() (41_stream_reader.md R132). -/
def State.scanStart (s : State) : State :=
  { s with attempts := 0, rxLen := 0, frameValid := false, fsm := .scanReq }

/-- state <- S (00_scope.md R10). -/
def State.goto (f : FsmState) (s : State) : State := { s with fsm := f }

/-- ATTEMPTS + 1 in its register (00_scope.md R7). DEDUCED: a counter of that width wraps, which no run meets (log entry 9). -/
def nextCount (p : Params) (n : Nat) : Nat := (n + 1) % 2 ^ attemptsWidth p

/-- ATTEMPTS <- ATTEMPTS + 1 (41_stream_reader.md R134). -/
def State.countAttempt (s : State) : State := { s with attempts := nextCount s.params s.attempts }

/-- RX_FRAME[0] <- 0xAA and RX_LEN <- 1 (41_stream_reader.md R139). -/
def State.storeHeader (s : State) : State := { s with rxFrame := s.rxFrame.set 0 hdr, rxLen := 1 }

/-- RX_FRAME with `for i in 0 .. k-1: RX_FRAME[1+i] <- ans[i]` (42_response_decoder.md R161): element 0 and the elements
past the answer stay as they are. -/
def withBody (f : RespFrame) (bs : List Byte) : RespFrame :=
  Vector.ofFn fun i => if i.val = 0 then f[i] else bs.getD (i.val - 1) f[i]

/-- The body bytes into RX_FRAME, and RX_LEN <- 1 + k (42_response_decoder.md R161). -/
def State.storeBody (bs : List Byte) (s : State) : State :=
  { s with rxFrame := withBody s.rxFrame bs, rxLen := BitVec.ofNat 4 (1 + bs.length) }

/-- FRAME_VALID <- 1 (42_response_decoder.md R164). -/
def State.acceptFrame (s : State) : State := { s with frameValid := true }

/-! ## The RX stream -/

/-- The transport's answer to `StreamRead(n)` (20_memory.md R52): what the block receives, and the machine with those
bytes gone from the head of `pending`. -/
def State.deliver (n : Nat) (a : Answer) (s : State) : Received × State :=
  match a with
  | .bytes len => (.bytes (s.pending.take (min len n)), { s with pending := s.pending.drop (min len n) })
  | .error lost => (.error, { s with pending := s.pending.drop (min lost n) })

/-! ## Result registers -/

/-- TX_FRAME <- f and TX_VALID <- 1 (40_frame_codec.md R106). -/
def State.putTx (f : CmdFrame) (s : State) : State := { s with txFrame := f, txHolds := true, txValid := true }

/-- TX_VALID <- 0; the bytes of TX_FRAME stay (10_state.md R26). -/
def State.failTx (s : State) : State := { s with txValid := false }

/-- CKSUM_OUT <- v and CKSUM_VALID <- 1 (40_frame_codec.md R104, R105). -/
def State.putCksum (v : Byte) (s : State) : State := { s with cksumOut := v, cksumHolds := true, cksumValid := true }

/-- CKSUM_VALID <- 0 (40_frame_codec.md R104). -/
def State.failCksum (s : State) : State := { s with cksumValid := false }

/-- PM25_RAW, PM10_RAW <- the reading and READING_VALID <- 1 (42_response_decoder.md R170). -/
def State.putReading (pm25 pm10 : Half) (s : State) : State :=
  { s with pm25Raw := pm25, pm10Raw := pm10, readingHolds := true, readingValid := true }

/-- READING_VALID <- 0; PM25_RAW and PM10_RAW stay (10_state.md R28). -/
def State.failReading (s : State) : State := { s with readingValid := false }

/-! ## Reset -/

/-- Reset() (70_reset_and_hazards.md R230) with the abandoned read's draw (R231): the block's registers are those of
State.reset; the lines, the parameters and the scheduling data are not the block's to reset. -/
def State.resetBlock (lost : Nat) (s : State) : State :=
  { State.reset with
    pins := s.pins, pending := s.pending.drop (min lost s.outstanding)
    params := s.params, agenda := s.agenda, draws := s.draws }

end Sys2Proof.Machine
end

