-- ==== Sys2Proof/Machine/FrameCodec.lean ====
section
/-! DEFINITION. FrameCodec (40_frame_codec.md): the meanings of ENCODE, CKSUM.C and CKSUM.R. Each is the whole accept step of its request (10_state.md R32). -/

namespace Sys2Proof.Machine

/-- The status with which ENCODE and CKSUM.C end: "INVALID_PAYLOAD (PLEN > 12), then INVALID_COMMAND, then OK"
(60_exceptions.md R204). -/
def commandStatus (p : Params) (cmd plen : Byte) : Status :=
  if plen.toNat > payloadMax then .invalidPayload
  else if !cmdOK p cmd then .invalidCommand
  else .ok

/-- ENCODE cmd, [payload] (40_frame_codec.md R106). -/
def execEncode (cmd plen : Byte) (lanes : List Byte) (s : State) : Host.Outcome State Fault Refusal :=
  let s := s.beginOp 0x1
  match commandStatus s.params cmd plen with
  | .ok => .next ((s.putTx (buildFrame cmd (opnd plen lanes))).complete .ok)
  | st => .next (s.failTx.complete st)

/-- CKSUM.C cmd, [payload] (40_frame_codec.md R104). -/
def execCksumC (cmd plen : Byte) (lanes : List Byte) (s : State) : Host.Outcome State Fault Refusal :=
  let s := s.beginOp 0x2
  match commandStatus s.params cmd plen with
  | .ok => .next ((s.putCksum (cmdChecksum cmd (opnd plen lanes))).complete .ok)
  | st => .next (s.failCksum.complete st)

/-- CKSUM.R [frame] (40_frame_codec.md R105). CMD is ignored and PLEN is not range-checked. -/
def execCksumR (plen : Byte) (lanes : List Byte) (s : State) : Host.Outcome State Fault Refusal :=
  .next (((s.beginOp 0x3).putCksum (respChecksumOpnd (opnd plen lanes))).complete .ok)

end Sys2Proof.Machine
end

