-- ==== Sys2Proof/Machine/ResponseDecoder.lean ====
section
/-! DEFINITION. ResponseDecoder (42_response_decoder.md): the meanings of READFRAME and DECODE, and the body's read-answer step. -/

namespace Sys2Proof.Machine

/-- READFRAME (42_response_decoder.md R160): at accept, ScanStart(). It completes in a later step. -/
def execReadframe (s : State) : Host.Outcome State Fault Refusal := .next (s.beginOp 0x5).scanStart

/-- The strict check fails (42_response_decoder.md R163): only with STRICT_CHECKSUM. -/
def State.checksumBad (s : State) : Bool :=
  s.params.strictChecksum && respChecksum s.rxFrame != s.rxFrame[8]

/-- BodyAnswer(ans), the read-answer step in BODY_REQ (42_response_decoder.md R161): ERROR (R165), short read (R162),
checksum mismatch (R163), frame accepted (R164), in this order. -/
def State.bodyAnswer (ans : Received) (s : State) : State :=
  match ans with
  | .error => s.complete .transportError
  | .bytes bs =>
    let s := s.storeBody bs
    if bs.length < bodyLen then s.complete .shortRead
    else if s.checksumBad then s.complete .checksumMismatch
    else s.acceptFrame.complete .ok

/-- The status with which DECODE ends: "SHORT_FRAME (PLEN < 10), then NOT_QUERY_ACK, then OK" (60_exceptions.md R204). -/
def decodeStatus (plen : Byte) (f : Lanes) : Status :=
  if plen.toNat < respFrameLen then .shortFrame
  else if f[1] ≠ queryAck then .notQueryAck
  else .ok

/-- DECODE [frame] (42_response_decoder.md R170). CMD is ignored. -/
def execDecode (plen : Byte) (lanes : List Byte) (s : State) : Host.Outcome State Fault Refusal :=
  let s := s.beginOp 0x6
  let f := opnd plen lanes
  match decodeStatus plen f with
  | .ok => .next ((s.putReading (pm25Of f) (pm10Of f)).complete .ok)
  | st => .next (s.failReading.complete st)

/-- The source's Reading: {pm25, pm10} in μg/m³ (42_response_decoder.md R172). -/
structure Reading where
  pm25 : ℚ
  pm10 : ℚ
deriving DecidableEq

/-- The reading the registers hold, if READING_VALID (10_state.md R28, 42_response_decoder.md R172). -/
def State.reading (s : State) : Option Reading :=
  if s.readingValid then some ⟨microgramsPerCubicMetre s.pm25Raw, microgramsPerCubicMetre s.pm10Raw⟩ else none

end Sys2Proof.Machine
end

