-- ==== Sys2Proof/Machine/StreamReader.lean ====
section
/-! DEFINITION. StreamReader (41_stream_reader.md): the meaning of FINDSTART, and the scan's own steps. -/

namespace Sys2Proof.Machine

/-- FINDSTART (41_stream_reader.md R131): at accept, ScanStart(). It completes in a later step. -/
def execFindstart (s : State) : Host.Outcome State Fault Refusal := .next (s.beginOp 0x4).scanStart

/-- Match() (41_stream_reader.md R139): FINDSTART completes, READFRAME goes on to the body. -/
def State.scanMatch (s : State) : State :=
  let s := s.storeHeader
  if s.curOp = 0x4 then s.complete .ok else s.goto .bodyReq

/-- Between two attempts CANCEL is sampled; else the next `StreamRead(1)` is issued (41_stream_reader.md R135, R137). -/
def State.nextAttempt (s : State) : State :=
  if s.pins.cancel then s.complete .cancelled else s.goto .scanReq

/-- ScanAnswer(ans), the read-answer step in SCAN_REQ (41_stream_reader.md R134): ERROR (R140), match (R139), budget
exhausted (R138), empty read (R136), miss (R135), in this order. -/
def State.scanAnswer (ans : Received) (s : State) : State :=
  match ans with
  | .error => s.complete .transportError
  | .bytes bs =>
    let s := s.countAttempt
    if bs.head? = some hdr then s.scanMatch
    else if s.attempts = s.params.scanBudget then s.complete .noSync
    else if bs = [] then s.goto .backoff
    else s.nextAttempt

/-- BackoffExpire() (41_stream_reader.md R137). -/
def State.backoffExpire (s : State) : State := s.nextAttempt

end Sys2Proof.Machine
end

