-- ==== Sys2Proof/Machine/Dispatch.lean ====
section
/-! DEFINITION. Dispatch: one arm per request. -/

namespace Sys2Proof.Machine

/-- The accept step of a legal request (10_state.md R32): one direct call of its meaning. -/
def exec (i : Instr) (s : State) : Host.Outcome State Fault Refusal :=
  match i with
  | .encode cmd plen lanes => Sys2Proof.Machine.execEncode cmd plen lanes s
  | .cksumC cmd plen lanes => Sys2Proof.Machine.execCksumC cmd plen lanes s
  | .cksumR _ plen lanes => Sys2Proof.Machine.execCksumR plen lanes s
  | .findstart _ _ _ => Sys2Proof.Machine.execFindstart s
  | .readframe _ _ _ => Sys2Proof.Machine.execReadframe s
  | .decode _ plen lanes => Sys2Proof.Machine.execDecode plen lanes s

end Sys2Proof.Machine
end

