-- ==== Sys2Proof/Machine/Moves.lean ====
section
/-! DEFINITION. The moves of the three agents: which are enabled, what each does, and which comes next. -/

namespace Sys2Proof.Machine

/-- The accept step is enabled: REQ_VALID = 1 and REQ_READY = 1 (10_state.md R32), and RST = 0 (60_exceptions.md R205). -/
def State.canAccept (s : State) : Bool := !s.pins.rst && s.pins.reqValid && s.reqReady

/-- Accept(ctrl, lanes) (10_state.md R32): a legal request runs; an illegal control word completes at once with
ILLEGAL_OP and writes no result register (30_encoding.md R75). -/
def acceptRequest (s : State) : Host.Outcome State Fault Refusal :=
  match decode s.pins.reqCtrl s.pins.reqPayload with
  | .ok i => exec i s
  | .error _ => .next ((s.beginOp (ctrlOp s.pins.reqCtrl)).complete .illegalOp)

/-- The answer to the outstanding read, applied in one step (20_memory.md R57). With no read outstanding, or with
RST = 1, there is nothing to answer (60_exceptions.md R205, 70_reset_and_hazards.md R231). -/
def State.answerRead (a : Answer) (s : State) : State :=
  if s.pins.rst then s
  else match s.fsm with
    | .scanReq => (s.deliver 1 a).2.scanAnswer (s.deliver 1 a).1
    | .bodyReq => (s.deliver bodyLen a).2.bodyAnswer (s.deliver bodyLen a).1
    | .idle => s
    | .backoff => s

/-- The end of the backoff wait, if one is running and RST = 0 (41_stream_reader.md R137, 60_exceptions.md R205). -/
def State.expireBackoff (s : State) : State :=
  if !s.pins.rst && s.fsm == .backoff then s.backoffExpire else s

/-- One move of one agent. A move that is not enabled changes nothing (log entry 4). -/
def applyMove (m : Move) (s : State) : Host.Outcome State Fault Refusal :=
  match m with
  | .accept => if s.canAccept then acceptRequest s else .next s
  | .answer a => .next (s.answerRead a)
  | .expire => .next s.expireBackoff
  | .reset lost => .next (if s.pins.rst then s.resetBlock lost else s)
  | .arrive bs => .next { s with pending := s.pending ++ bs }
  | .drive p => .next { s with pins := p }
  | .hostRead r =>
    match s.readOut r with
    | .ok _ => .next s
    | .error f => .fault f

/-- The next move, and the state with that move taken off the agenda or its free value drawn. With an empty agenda:
the reset while RST = 1 (60_exceptions.md R205), the accept where it is enabled, else a free move (log entry 3). -/
def State.takeMove (s : State) : Move × State :=
  match s.agenda with
  | m :: rest => (m, { s with agenda := rest })
  | [] =>
    if s.pins.rst then (.reset (Config.freeLost s.draws), { s with draws := s.draws + 1 })
    else if s.canAccept then (.accept, s)
    else (Config.freeMove s.draws, { s with draws := s.draws + 1 })

/-- The request `r` on the port with everything its accept takes: RST low, IDLE, FAULT clear, and the accept as the
next move (log entry 10). -/
def State.presentNext (r : Request) (s : State) : State :=
  { s with
    pins := { s.pins with reqValid := true, reqCtrl := r.ctrl, reqPayload := r.lanes, rst := false }
    fsm := .idle, fault := false
    agenda := match s.agenda with
      | [] => []
      | m :: rest => .accept :: m :: rest }

end Sys2Proof.Machine
end

