-- ==== Sys2Proof/Machine/Step.lean ====
section
/-! DEFINITION. One step: the next move, taken. -/

namespace Sys2Proof.Machine

/-- One step of the machine: the next move of the agents (00_scope.md R11: "each step is atomic"). -/
def step (s : State) : Host.Outcome State Fault Refusal := applyMove s.takeMove.1 s.takeMove.2

/-- The machine with a table word's request presented, so that the very next step accepts it (log entries 10 and 11). -/
def State.withFetchWord (s : State) (nbits w : Nat) : State :=
  s.presentNext ⟨tableCtrl nbits w, tableLanes nbits w⟩

end Sys2Proof.Machine
end

