-- ==== Sys2Proof/Machine/Assembler.lean ====
section
/-! DEFINITION. The assembler (30_encoding.md R90, R91): source forms to requests, and their text. -/

namespace Sys2Proof

/-- The command codes by name (30_encoding.md R81). -/
def CmdName.code : CmdName → Byte
  | .mode => 0x02
  | .queryData => 0x04
  | .deviceId => 0x05
  | .sleep => 0x06
  | .firmware => 0x07
  | .workingPeriod => 0x08

/-- The byte of an operand <cmd> (30_encoding.md R90). -/
def CmdOperand.value : CmdOperand → Byte
  | .byte b => b
  | .name n => n.code

/-- A request with its list operand: "The list length k becomes PLEN", "The first min(k, 12) bytes go to lanes",
"Every other lane is 0x00", and k > 255 is refused (30_encoding.md R90). -/
def assembleList (op : BitVec 4) (cmd : Byte) (bs : List Byte) : Option Request :=
  if bs.length ≤ 255 then some ⟨packCtrl op cmd (BitVec.ofNat 8 bs.length), lanesOf bs⟩ else none

/-- The byte SETSLEEP sends: "sleep=true maps to mode byte 0, sleep=false maps to mode byte 1" (30_encoding.md R91). -/
def sleepByte (sleep : Bool) : Byte := if sleep then 0x00 else 0x01

/-- Source form to request (30_encoding.md R90); a pseudo-instruction is the ENCODE of its expansion, and a mode or
period outside 0..255 is refused (R91). -/
def assemble : Asm → Option Request
  | .encode c bs => assembleList 0x1 c.value bs
  | .cksumC c bs => assembleList 0x2 c.value bs
  | .cksumR bs => assembleList 0x3 0 bs
  | .findstart => assembleList 0x4 0 []
  | .readframe => assembleList 0x5 0 []
  | .decode bs => assembleList 0x6 0 bs
  | .query => assembleList 0x1 CmdName.queryData.code []
  | .setMode m => if m ≤ 255 then assembleList 0x1 CmdName.mode.code [0x01, BitVec.ofNat 8 m] else none
  | .setSleep b => assembleList 0x1 CmdName.sleep.code [0x01, sleepByte b]
  | .setPeriod p => if p ≤ 255 then assembleList 0x1 CmdName.workingPeriod.code [0x01, BitVec.ofNat 8 p] else none

/-- A name of R81 as text. -/
def CmdName.text : CmdName → String
  | .mode => "MODE"
  | .queryData => "QUERY_DATA"
  | .deviceId => "DEVICE_ID"
  | .sleep => "SLEEP"
  | .firmware => "FIRMWARE"
  | .workingPeriod => "WORKING_PERIOD"

/-- An operand <cmd> as text: a decimal byte or a name (30_encoding.md R90). -/
def CmdOperand.text : CmdOperand → String
  | .byte b => toString b.toNat
  | .name n => n.text

/-- A list operand as text (30_encoding.md R90). -/
def listText (bs : List Byte) : String :=
  "[" ++ String.intercalate ", " (bs.map fun b => toString b.toNat) ++ "]"

/-- The textual form of a source line (30_encoding.md R90, R91). -/
def Asm.text : Asm → String
  | .encode c bs => "ENCODE " ++ c.text ++ ", " ++ listText bs
  | .cksumC c bs => "CKSUM.C " ++ c.text ++ ", " ++ listText bs
  | .cksumR bs => "CKSUM.R " ++ listText bs
  | .findstart => "FINDSTART"
  | .readframe => "READFRAME"
  | .decode bs => "DECODE " ++ listText bs
  | .query => "QUERY"
  | .setMode m => "SETMODE " ++ toString m
  | .setSleep b => "SETSLEEP " ++ toString b
  | .setPeriod p => "SETPERIOD " ++ toString p

end Sys2Proof
end

