-- ==== Sys2Proof/Safety.lean ====
section
/-! DEFINITION. What the statements speak of: the machine's invariant, schedules, runs and fairness, safe runs and the host's obligations, the block's registers, and states that differ only in registers that hold no value. -/

namespace Sys2Proof

/-- A function on the next state of an outcome; a fault or a refusal stays. -/
def mapNext {σ φ ρ : Type} (f : σ → σ) : Host.Outcome σ φ ρ → Host.Outcome σ φ ρ
  | .next s => .next (f s)
  | .fault r => .fault r
  | .refused r => .refused r

namespace Machine

/-! ## The invariant -/

/-- What every command frame TX_FRAME holds has (30_encoding.md R80, 40_frame_codec.md R108). -/
def isCommandFrame (p : Params) (f : CmdFrame) : Bool :=
  f[0] == 0xAA && f[1] == 0xB4 && cmdOK p f[2] && f[15] == 0xFF && f[16] == 0xFF && f[18] == 0xAB &&
  f[17] == cmdChecksum f[2] #v[f[3], f[4], f[5], f[6], f[7], f[8], f[9], f[10], f[11], f[12], f[13], f[14]]

/-- STATUS, DONE, FAULT and BUSY agree (10_state.md R29, 60_exceptions.md R201, R203): DONE is set exactly with a
status, FAULT exactly with a fatal one, and a busy block has neither. -/
abbrev State.FlagsInv (s : State) : Prop :=
  s.done = (s.status != .none) ∧ s.fault = s.status.fatal ∧ (s.busy = true → s.done = false)

/-- The scan's registers while an operation is in progress (10_state.md R22 to R25, 41_stream_reader.md R132 to R141). -/
abbrev State.ScanInv (s : State) : Prop :=
  1 ≤ s.params.scanBudget ∧ s.attempts ≤ s.params.scanBudget ∧
  (s.busy = true → (s.curOp = 0x4 ∨ s.curOp = 0x5) ∧ s.frameValid = false) ∧
  (s.fsm = .scanReq → s.attempts < s.params.scanBudget ∧ s.rxLen = 0) ∧
  (s.fsm = .backoff → 1 ≤ s.attempts ∧ s.attempts < s.params.scanBudget ∧ s.rxLen = 0) ∧
  (s.fsm = .bodyReq → 1 ≤ s.attempts ∧ s.curOp = 0x5 ∧ s.rxLen = 1)

/-- The received frame (10_state.md R25, 42_response_decoder.md R163, R164): RX_LEN is at most 10, a held frame begins
with the header, and a valid one is complete and, in strict mode, has its checksum. -/
abbrev State.RxInv (s : State) : Prop :=
  s.rxLen.toNat ≤ 10 ∧ (s.rxLen ≠ 0 → s.rxFrame[0] = 0xAA) ∧
  (s.frameValid = true → s.rxLen = 10) ∧
  (s.frameValid = true → s.params.strictChecksum = true → respChecksum s.rxFrame = s.rxFrame[8])

/-- A valid result register holds a value (10_state.md R26 to R28, R30), and TX_FRAME holds only command frames. -/
abbrev State.ResultInv (s : State) : Prop :=
  (s.txValid = true → s.txHolds = true) ∧ (s.cksumValid = true → s.cksumHolds = true) ∧
  (s.readingValid = true → s.readingHolds = true) ∧ (s.txHolds = true → isCommandFrame s.params s.txFrame = true)

/-- The invariant that reset establishes and every step keeps. -/
abbrev State.Inv (s : State) : Prop := s.FlagsInv ∧ s.ScanInv ∧ s.RxInv ∧ s.ResultInv

/-! ## The block's registers -/

/-- Two states whose block registers (10_state.md R21, with R30's marks of which hold a value) are the same. The host's
lines, the stream, the parameters and the scheduling data may differ. -/
abbrev SameBlock (s t : State) : Prop :=
  s.fsm = t.fsm ∧ s.curOp = t.curOp ∧ s.attempts = t.attempts ∧ s.rxFrame = t.rxFrame ∧ s.rxLen = t.rxLen ∧
  s.frameValid = t.frameValid ∧ s.txFrame = t.txFrame ∧ s.txHolds = t.txHolds ∧ s.txValid = t.txValid ∧
  s.cksumOut = t.cksumOut ∧ s.cksumHolds = t.cksumHolds ∧ s.cksumValid = t.cksumValid ∧
  s.pm25Raw = t.pm25Raw ∧ s.pm10Raw = t.pm10Raw ∧ s.readingHolds = t.readingHolds ∧
  s.readingValid = t.readingValid ∧ s.status = t.status ∧ s.done = t.done ∧ s.fault = t.fault

/-- Two states that agree on everything but the contents of registers that hold no value (10_state.md R30), and on
CUR_OP only while an operation is in progress ("no rule reads it in IDLE", R23). -/
def SameHeld (s t : State) : Prop :=
  s.fsm = t.fsm ∧ (s.fsm ≠ .idle → s.curOp = t.curOp) ∧ s.attempts = t.attempts ∧ s.rxLen = t.rxLen ∧
  (∀ i : Fin 10, i.val < s.rxLen.toNat → s.rxFrame[i] = t.rxFrame[i]) ∧ s.frameValid = t.frameValid ∧
  s.txHolds = t.txHolds ∧ (s.txHolds = true → s.txFrame = t.txFrame) ∧ s.txValid = t.txValid ∧
  s.cksumHolds = t.cksumHolds ∧ (s.cksumHolds = true → s.cksumOut = t.cksumOut) ∧ s.cksumValid = t.cksumValid ∧
  s.readingHolds = t.readingHolds ∧
  (s.readingHolds = true → s.pm25Raw = t.pm25Raw ∧ s.pm10Raw = t.pm10Raw) ∧ s.readingValid = t.readingValid ∧
  s.status = t.status ∧ s.done = t.done ∧ s.fault = t.fault ∧
  s.pins = t.pins ∧ s.pending = t.pending ∧ s.params = t.params ∧ s.agenda = t.agenda ∧ s.draws = t.draws

/-- Two outcomes of the same kind, with the same fault or refusal, or with next states in relation `r`. -/
def outcomesAgree {σ φ ρ : Type} (r : σ → σ → Prop) : Host.Outcome σ φ ρ → Host.Outcome σ φ ρ → Prop
  | .next s, .next t => r s t
  | .fault a, .fault b => a = b
  | .refused a, .refused b => a = b
  | .next _, .fault _ => False
  | .next _, .refused _ => False
  | .fault _, .next _ => False
  | .fault _, .refused _ => False
  | .refused _, .next _ => False
  | .refused _, .fault _ => False

/-! ## What a step is -/

/-- The next step accepts the legal request `i`. -/
def State.accepts (s : State) (i : Instr) : Prop :=
  s.takeMove.1 = .accept ∧ s.takeMove.2.canAccept = true ∧ Sys2Proof.decode s.pins.reqCtrl s.pins.reqPayload = .ok i

/-- The next step accepts a request, legal or not. -/
def State.acceptsAny (s : State) : Prop := s.takeMove.1 = .accept ∧ s.takeMove.2.canAccept = true

/-- The next step is the reset step. -/
def State.resets (s : State) : Prop := (∃ lost, s.takeMove.1 = .reset lost) ∧ s.pins.rst = true

/-- A request that starts a scan: FINDSTART or READFRAME. -/
def scans (i : Instr) : Prop := i.op = 0x4 ∨ i.op = 0x5

/-- The machine with another value of the parameter BACKOFF. -/
def State.withBackoff (ms : Nat) (s : State) : State := { s with params := { s.params with backoffMs := ms } }

/-- The machine with another level of the input CANCEL. -/
def State.withCancel (b : Bool) (s : State) : State := { s with pins := { s.pins with cancel := b } }

/-! ## Schedules -/

/-- One bounded schedule: each answer followed at once by the end of the backoff wait it may have started. Fairness itself
(70_reset_and_hazards.md R243), with other moves in between, is `weaklyFair` below. -/
def fairAnswers (as : List Answer) : List Move := as.flatMap fun a => [.answer a, .expire]

/-- `k` reads answered by the reference transport (20_memory.md R53): all that is pending, up to n bytes. -/
def referenceAnswers (k : Nat) : List Answer := List.replicate k (.bytes bodyLen)

/-! ## Runs and fairness -/

/-- A list of moves taken one after the other, to the first stop. -/
def applyMoves : List Move → State → Host.Outcome State Fault Refusal
  | [], s => .next s
  | m :: ms, s =>
    match applyMove m s with
    | .next t => applyMoves ms t
    | .fault f => .fault f
    | .refused r => .refused r

/-- An endless run: move `mv n` takes state `σ n` to `σ (n + 1)`. The moves of the three agents may come in any order. -/
def isRun (mv : Nat → Move) (σ : Nat → State) : Prop := ∀ n, applyMove (mv n) (σ n) = .next (σ (n + 1))

/-- Weak fairness (70_reset_and_hazards.md R243) of a step that is enabled in the FSM state `f` while RST = 0: if from some
point on it stays enabled, it is taken again. -/
def weaklyFair (f : FsmState) (taken : Move → Prop) (mv : Nat → Move) (σ : Nat → State) : Prop :=
  ∀ n, (∀ m, n ≤ m → (σ m).fsm = f ∧ (σ m).pins.rst = false) → ∃ m, n ≤ m ∧ taken (mv m)

/-- The transport answers every `StreamRead(1)`. -/
def fairScanAnswers (mv : Nat → Move) (σ : Nat → State) : Prop := weaklyFair .scanReq (fun m => ∃ a, m = .answer a) mv σ

/-- The transport answers every `StreamRead(9)`. -/
def fairBodyAnswers (mv : Nat → Move) (σ : Nat → State) : Prop := weaklyFair .bodyReq (fun m => ∃ a, m = .answer a) mv σ

/-- Every backoff wait expires. -/
def fairExpiry (mv : Nat → Move) (σ : Nat → State) : Prop := weaklyFair .backoff (fun m => m = .expire) mv σ

/-! ## Safe runs -/

/-- "The host must hold REQ_CTRL and REQ_PAYLOAD stable while REQ_VALID = 1 and REQ_READY = 0" (10_state.md R32): what
the host may drive next. The model lets a host break it (log entry 13). -/
def hostHoldsRequest (s : State) (p : HostPins) : Prop :=
  s.pins.reqValid = true → s.reqReady = false → p.reqValid = true →
    p.reqCtrl = s.pins.reqCtrl ∧ p.reqPayload = s.pins.reqPayload

/-- A request the host may present (70_reset_and_hazards.md R239): a legal control word, and for ENCODE and CKSUM.C a
payload of at most 12 bytes and a command the block accepts. -/
def requestAllowed (p : Params) (r : Request) : Bool :=
  match Sys2Proof.decode r.ctrl r.lanes with
  | .ok (.encode c n _) => commandStatus p c n == .ok
  | .ok (.cksumC c n _) => commandStatus p c n == .ok
  | .ok (.cksumR ..) => true
  | .ok (.findstart ..) => true
  | .ok (.readframe ..) => true
  | .ok (.decode ..) => true
  | .error _ => false

/-- A step is safe: it neither stops the machine nor leaves FAULT set. -/
def safeOutcome : Host.Outcome State Fault Refusal → Prop
  | .next s => s.fault = false
  | .fault _ => False
  | .refused _ => False

end Machine

end Sys2Proof
end

