-- ==== Sys2Proof/Certificates/Slice0/Obligations.lean ====
section
/-! DEFINITION. The statements about the machine, for the provers. -/

open Sys2Proof Sys2Proof.Machine

/-! ## Encoding -/

/-- Every well-formed request is read back from its own words, with every operand at every value (30_encoding.md
sections 1 and 2). -/
def Obligations.DecodeEncodeAllRequests : Prop :=
  ∀ i : Instr, i.wf = true → decode (encode i).ctrl (encode i).lanes = .ok i

/-- The other direction: a legal word has one meaning, that meaning is well-formed, and its words are the word read. -/
def Obligations.EncodeDecodeLegalWords : Prop :=
  ∀ (c : Ctrl) (l : Lanes) (i : Instr), decode c l = .ok i → i.wf = true ∧ encode i = ⟨c, l⟩

/-- R72: the six op codes, each selected by REQ_CTRL & 0xFF0000FF = k, with CMD in bits [15:8] and PLEN in [23:16], and
every other word reserved. -/
def Obligations.OpcodeSelectsRequest : Prop :=
  ∀ (c : Ctrl) (l : Lanes),
    let cmd := c.extractLsb' 8 8
    let plen := c.extractLsb' 16 8
    let k := c &&& 0xFF0000FF
    (k = 1 → decode c l = .ok (.encode cmd plen l.toList)) ∧
    (k = 2 → decode c l = .ok (.cksumC cmd plen l.toList)) ∧
    (k = 3 → decode c l = .ok (.cksumR cmd plen l.toList)) ∧
    (k = 4 → decode c l = .ok (.findstart cmd plen l.toList)) ∧
    (k = 5 → decode c l = .ok (.readframe cmd plen l.toList)) ∧
    (k = 6 → decode c l = .ok (.decode cmd plen l.toList)) ∧
    (k ∉ [1, 2, 3, 4, 5, 6] → ∃ e, decode c l = .error e)

/-- R75: a control word is illegal exactly when OP is 0x0 or 0x7..0xF, or bits [7:4] or [31:24] are not 0; accepting it
completes at once with ILLEGAL_OP, which is fatal, and changes nothing but CUR_OP, STATUS, DONE, FAULT. -/
def Obligations.IllegalWordCompletesFatal : Prop :=
  ∀ (s : State),
    let c := s.pins.reqCtrl
    ((∃ e, decode c s.pins.reqPayload = .error e) ↔
      (c.extractLsb' 0 4 ∉ [1#4, 2#4, 3#4, 4#4, 5#4, 6#4] ∨ c.extractLsb' 4 4 ≠ 0#4 ∨ c.extractLsb' 24 8 ≠ 0#8)) ∧
    (s.canAccept = true → (∃ e, decode c s.pins.reqPayload = .error e) →
      applyMove .accept s =
        .next { s with curOp := c.extractLsb' 0 4, status := .illegalOp, done := true, fault := true })

/-- A few control words written out from 30_encoding.md sections 1 and 6 decode to what they stand for, and two that its
section 3 makes illegal are rejected (sanity). They stand in table words with lanes of zeros, a layout that is the model's
choice (log entry 11). -/
def Obligations.ExampleWordsDecode : Prop :=
  decodeTableWord 32 0x00020801 = some (.encode 0x08 2 (List.replicate 12 0)) ∧
  decodeTableWord 32 0x00020802 = some (.cksumC 0x08 2 (List.replicate 12 0)) ∧
  decodeTableWord 32 0x000A0003 = some (.cksumR 0 10 (List.replicate 12 0)) ∧
  decodeTableWord 32 0x00000004 = some (.findstart 0 0 (List.replicate 12 0)) ∧
  decodeTableWord 32 0x00000005 = some (.readframe 0 0 (List.replicate 12 0)) ∧
  decodeTableWord 32 0x000A0006 = some (.decode 0 10 (List.replicate 12 0)) ∧
  decodeTableWord 32 0x00000007 = none ∧ decodeTableWord 32 0x01000001 = none

/-- R91: each pseudo-instruction is the ENCODE of its expansion, with the control word the table gives; SETSLEEP is
inverted; a mode or period outside 0..255 is refused. -/
def Obligations.PseudoInstructionsExpand : Prop :=
  (assemble .query = assemble (.encode (.name .queryData) []) ∧
    (assemble .query).map Request.ctrl = some 0x00000401) ∧
  (∀ m : Nat, m ≤ 255 →
    assemble (.setMode m) = assemble (.encode (.name .mode) [0x01, BitVec.ofNat 8 m]) ∧
    (assemble (.setMode m)).map Request.ctrl = some 0x00020201) ∧
  (assemble (.setSleep true) = assemble (.encode (.name .sleep) [0x01, 0x00]) ∧
    (assemble (.setSleep true)).map Request.ctrl = some 0x00020601) ∧
  (assemble (.setSleep false) = assemble (.encode (.name .sleep) [0x01, 0x01]) ∧
    (assemble (.setSleep false)).map Request.ctrl = some 0x00020601) ∧
  (∀ p : Nat, p ≤ 255 →
    assemble (.setPeriod p) = assemble (.encode (.name .workingPeriod) [0x01, BitVec.ofNat 8 p]) ∧
    (assemble (.setPeriod p)).map Request.ctrl = some 0x00020801) ∧
  (∀ n : Nat, 255 < n → assemble (.setMode n) = none ∧ assemble (.setPeriod n) = none)

/-- The assembler's list forms (30_encoding.md section 6): the request decodes to the operation with PLEN the list's
length and the first twelve bytes on the lanes; a list longer than 255 is refused; FINDSTART and READFRAME have every field 0. -/
def Obligations.AssembledListsDecode : Prop :=
  ∀ (c : CmdOperand) (bs : List Byte),
    let k := BitVec.ofNat 8 bs.length
    let lanes := bs.take 12 ++ List.replicate (12 - bs.length) 0
    (bs.length ≤ 255 →
      (∃ r, assemble (.encode c bs) = some r ∧ decode r.ctrl r.lanes = .ok (.encode c.value k lanes)) ∧
      (∃ r, assemble (.cksumC c bs) = some r ∧ decode r.ctrl r.lanes = .ok (.cksumC c.value k lanes)) ∧
      (∃ r, assemble (.cksumR bs) = some r ∧ decode r.ctrl r.lanes = .ok (.cksumR 0 k lanes)) ∧
      (∃ r, assemble (.decode bs) = some r ∧ decode r.ctrl r.lanes = .ok (.decode 0 k lanes))) ∧
    (255 < bs.length →
      assemble (.encode c bs) = none ∧ assemble (.cksumC c bs) = none ∧ assemble (.cksumR bs) = none ∧
      assemble (.decode bs) = none) ∧
    assemble .findstart = some ⟨0x00000004, Vector.replicate 12 0⟩ ∧
    assemble .readframe = some ⟨0x00000005, Vector.replicate 12 0⟩

/-! ## Operands and checksums -/

/-- R73: the zero-padded operand view. -/
def Obligations.OperandViewIsZeroPadded : Prop :=
  ∀ (plen : Byte) (l : Lanes) (i : Fin 12),
    (opnd plen l.toList)[i] = if i.val < plen.toNat then l[i] else 0

/-- R101: the command checksum equals the sum of command-frame bytes 2..16, modulo 256, for every command and payload. -/
def Obligations.CommandChecksumIsFrameSum : Prop :=
  ∀ (c : Byte) (p : Lanes),
    (cmdChecksum c p).toNat = byteSum (((buildFrame c p).toList.drop 2).take 15) % 256

/-- R102: the range of the argument of `mod`, its only negative cases with their values, and the agreement with 8-bit
wrapping arithmetic. -/
def Obligations.CommandChecksumRange : Prop :=
  ∀ (c : Byte) (p : Lanes),
    let n := byteSum p.toList
    let x : Int := (n : Int) + (c.toNat : Int) - 2
    n ≤ 3060 ∧ -2 ≤ x ∧ x ≤ 3313 ∧
    (x < 0 ↔ (c = 0 ∧ n ≤ 1) ∨ (c = 1 ∧ n = 0)) ∧
    (c = 0 → n = 0 → cmdChecksum c p = 254) ∧ (c = 0 → n = 1 → cmdChecksum c p = 255) ∧
    (c = 1 → n = 0 → cmdChecksum c p = 255) ∧
    (∀ q : Params, x < 0 → cmdOK q c = true → q.allowAnyCmd = true) ∧
    (c ∈ cmdCodes → 0 ≤ x) ∧
    cmdChecksum c p = p.toList.foldl (· + ·) 0 + c + 0xFE

/-- R107: command validity, and what ENCODE and CKSUM.C do with another command. -/
def Obligations.InvalidCommandRefused : Prop :=
  ∀ (cmd plen : Byte) (lanes : List Byte) (s : State),
    (cmdOK s.params cmd = true ↔
      cmd ∈ [0x02#8, 0x04#8, 0x05#8, 0x06#8, 0x07#8, 0x08#8] ∨ s.params.allowAnyCmd = true) ∧
    (plen.toNat ≤ 12 → cmd ∉ [0x02#8, 0x04#8, 0x05#8, 0x06#8, 0x07#8, 0x08#8] → s.params.allowAnyCmd = false →
      exec (.encode cmd plen lanes) s =
        .next { s with curOp := 1, status := .invalidCommand, done := true, fault := true, fsm := .idle, txValid := false } ∧
      exec (.cksumC cmd plen lanes) s =
        .next { s with curOp := 2, status := .invalidCommand, done := true, fault := true, fsm := .idle, cksumValid := false })

/-! ## The requests: result, completion and frame -/

/-- R106, ENCODE whole: its encoding; with a payload of at most 12 bytes and a valid command it completes OK with the
19-byte frame; a longer payload is INVALID_PAYLOAD, checked first, and another command INVALID_COMMAND, both fatal with
TX_VALID cleared. Each next state is given whole, so nothing else changes. -/
def Obligations.EncodeBuildsFrame : Prop :=
  (∀ (c : Ctrl) (l : Lanes), c &&& 0xFF0000FF = 0x00000001 →
    decode c l = .ok (.encode (c.extractLsb' 8 8) (c.extractLsb' 16 8) l.toList)) ∧
  ∀ (cmd plen : Byte) (lanes : List Byte) (s : State),
    let p : Nat → Byte := fun i => if i < plen.toNat then lanes.getD i 0 else 0
    (plen.toNat ≤ 12 → cmdOK s.params cmd = true → ∃ cs : Byte,
      (cs.toNat : Int) = ((((List.range 12).map fun i => (p i).toNat).sum : Int) + cmd.toNat - 2) % 256 ∧
      exec (.encode cmd plen lanes) s =
        .next { s with
          curOp := 1, status := .ok, done := true, fsm := .idle, txValid := true, txHolds := true
          txFrame := #v[0xAA, 0xB4, cmd, p 0, p 1, p 2, p 3, p 4, p 5, p 6, p 7, p 8, p 9, p 10, p 11,
            0xFF, 0xFF, cs, 0xAB] }) ∧
    (12 < plen.toNat →
      exec (.encode cmd plen lanes) s =
        .next { s with curOp := 1, status := .invalidPayload, done := true, fault := true, fsm := .idle, txValid := false }) ∧
    (plen.toNat ≤ 12 → cmdOK s.params cmd = false →
      exec (.encode cmd plen lanes) s =
        .next { s with curOp := 1, status := .invalidCommand, done := true, fault := true, fsm := .idle, txValid := false })

/-- R108: every ENCODE that completes with OK leaves a frame with the source's properties, and every ENCODE with PLEN > 12
completes with INVALID_PAYLOAD. -/
def Obligations.EncodedFrameProperties : Prop :=
  ∀ (cmd plen : Byte) (lanes : List Byte) (s t : State), exec (.encode cmd plen lanes) s = .next t →
    (t.status = .ok →
      t.txFrame.toList.length = 19 ∧ t.txFrame[0] = 0xAA ∧ t.txFrame[1] = 0xB4 ∧ t.txFrame[2] = cmd ∧
      t.txFrame[15] = 0xFF ∧ t.txFrame[16] = 0xFF ∧ t.txFrame[18] = 0xAB ∧
      (t.txFrame[17].toNat : Int) =
        ((((t.txFrame.toList.drop 3).take 12).map BitVec.toNat).sum + (cmd.toNat : Int) - 2) % 256) ∧
    (12 < plen.toNat → t.status = .invalidPayload)

/-- R104, CKSUM.C whole: its encoding, its result with completion, its two fatal ends in their order, and that its
result is byte 17 of the frame ENCODE builds from the same request. -/
def Obligations.CksumCGivesCommandChecksum : Prop :=
  (∀ (c : Ctrl) (l : Lanes), c &&& 0xFF0000FF = 0x00000002 →
    decode c l = .ok (.cksumC (c.extractLsb' 8 8) (c.extractLsb' 16 8) l.toList)) ∧
  ∀ (cmd plen : Byte) (lanes : List Byte) (s : State),
    let p : Nat → Byte := fun i => if i < plen.toNat then lanes.getD i 0 else 0
    (plen.toNat ≤ 12 → cmdOK s.params cmd = true → ∃ cs : Byte,
      (cs.toNat : Int) = ((((List.range 12).map fun i => (p i).toNat).sum : Int) + cmd.toNat - 2) % 256 ∧
      exec (.cksumC cmd plen lanes) s =
        .next { s with
          curOp := 2, status := .ok, done := true, fsm := .idle, cksumOut := cs, cksumValid := true, cksumHolds := true } ∧
      ∃ t, exec (.encode cmd plen lanes) s = .next t ∧ t.txFrame[17] = cs) ∧
    (12 < plen.toNat →
      exec (.cksumC cmd plen lanes) s =
        .next { s with curOp := 2, status := .invalidPayload, done := true, fault := true, fsm := .idle, cksumValid := false }) ∧
    (plen.toNat ≤ 12 → cmdOK s.params cmd = false →
      exec (.cksumC cmd plen lanes) s =
        .next { s with curOp := 2, status := .invalidCommand, done := true, fault := true, fsm := .idle, cksumValid := false })

/-- R105, CKSUM.R whole: its encoding; for every PLEN and every lanes it completes OK with sum(Opnd[1..7]) mod 256. -/
def Obligations.CksumRGivesResponseChecksum : Prop :=
  (∀ (c : Ctrl) (l : Lanes), c &&& 0xFF0000FF = 0x00000003 →
    decode c l = .ok (.cksumR (c.extractLsb' 8 8) (c.extractLsb' 16 8) l.toList)) ∧
  ∀ (cmd plen : Byte) (lanes : List Byte) (s : State),
    let p : Nat → Nat := fun i => if i < plen.toNat then (lanes.getD i 0).toNat else 0
    ∃ cs : Byte, cs.toNat = (p 1 + p 2 + p 3 + p 4 + p 5 + p 6 + p 7) % 256 ∧
      exec (.cksumR cmd plen lanes) s =
        .next { s with
          curOp := 3, status := .ok, done := true, fsm := .idle, cksumOut := cs, cksumValid := true, cksumHolds := true }

/-- R170 and R171, DECODE whole: its encoding; SHORT_FRAME before NOT_QUERY_ACK, both leaving the PM registers; else OK
with the two little-endian raw values, for PLEN of 10 and more. -/
def Obligations.DecodeYieldsRawValues : Prop :=
  (∀ (c : Ctrl) (l : Lanes), c &&& 0xFF0000FF = 0x00000006 →
    decode c l = .ok (.decode (c.extractLsb' 8 8) (c.extractLsb' 16 8) l.toList)) ∧
  ∀ (cmd plen : Byte) (lanes : List Byte) (s : State),
    let b : Nat → Byte := fun i => lanes.getD i 0
    (10 ≤ plen.toNat → b 1 = 0xC0 → ∃ pm25 pm10 : Half,
      pm25.toNat = (b 3).toNat * 256 + (b 2).toNat ∧ pm10.toNat = (b 5).toNat * 256 + (b 4).toNat ∧
      exec (.decode cmd plen lanes) s =
        .next { s with
          curOp := 6, status := .ok, done := true, fsm := .idle
          pm25Raw := pm25, pm10Raw := pm10, readingValid := true, readingHolds := true }) ∧
    (plen.toNat < 10 →
      exec (.decode cmd plen lanes) s =
        .next { s with curOp := 6, status := .shortFrame, done := true, fsm := .idle, readingValid := false }) ∧
    (10 ≤ plen.toNat → b 1 ≠ 0xC0 →
      exec (.decode cmd plen lanes) s =
        .next { s with curOp := 6, status := .notQueryAck, done := true, fsm := .idle, readingValid := false })

/-- R173: DECODE yields a reading exactly when PLEN >= 10 and Opnd[1] = 0xC0, and the reading is then a function of
Opnd[2..5] alone: two requests that agree on them, in any two states, give the same reading. -/
def Obligations.DecodeReadingExactlyWhen : Prop :=
  ∀ (cmd plen : Byte) (lanes : List Byte) (s t : State), exec (.decode cmd plen lanes) s = .next t →
    (t.readingValid = true ↔ 10 ≤ plen.toNat ∧ (opnd plen lanes)[1] = 0xC0) ∧
    ∀ (cmd' plen' : Byte) (lanes' : List Byte) (s' t' : State), exec (.decode cmd' plen' lanes') s' = .next t' →
      t.readingValid = true → t'.readingValid = true →
      (∀ i : Fin 12, 2 ≤ i.val → i.val ≤ 5 → (opnd plen lanes)[i] = (opnd plen' lanes')[i]) →
      t.pm25Raw = t'.pm25Raw ∧ t.pm10Raw = t'.pm10Raw ∧ t.reading = t'.reading

/-- R172: the reading is the exact rational raw / 10, and its values are exactly n / 10 for n in 0..65535. -/
def Obligations.ReadingIsExactRational : Prop :=
  (∀ s : State, s.readingValid = true → ∃ r, s.reading = some r ∧
    r.pm25 * 10 = (s.pm25Raw.toNat : ℚ) ∧ r.pm10 * 10 = (s.pm10Raw.toNat : ℚ)) ∧
  (∀ q : ℚ, (∃ raw : Half, microgramsPerCubicMetre raw = q) ↔ ∃ n : Nat, n ≤ 65535 ∧ q = (n : ℚ) / 10)

/-- R132 (with the accept of R32): FINDSTART and READFRAME start a scan at accept, for every value of the fields they
ignore and whatever CANCEL is: the first `StreamRead(1)` is outstanding, RX_FRAME's bytes are not erased, nothing else
changes. -/
def Obligations.ScanStartsAtAccept : Prop :=
  ∀ (cmd plen : Byte) (lanes : List Byte) (s : State),
    (∃ t, exec (.findstart cmd plen lanes) s = .next t ∧ t.rdReq = some 1 ∧
      t = { s with curOp := 4, status := .none, done := false, attempts := 0, rxLen := 0, frameValid := false, fsm := .scanReq }) ∧
    (∃ t, exec (.readframe cmd plen lanes) s = .next t ∧ t.rdReq = some 1 ∧
      t = { s with curOp := 5, status := .none, done := false, attempts := 0, rxLen := 0, frameValid := false, fsm := .scanReq })

/-! ## The accept step and the handshake -/

/-- A step runs the decoded request: when the next move is the accept, it is enabled, and the port's words decode to `i`,
the step is `exec i`, at the state with that move taken; taking a move changes only the scheduling data (10_state.md
section 3; that data is the model's choice, log entry 3). -/
def Obligations.StepRunsDecodedRequest : Prop :=
  (∀ (s s' : State) (i : Instr), s.takeMove = (.accept, s') → s'.canAccept = true →
    decode s'.pins.reqCtrl s'.pins.reqPayload = .ok i → step s = exec i s') ∧
  (∀ s : State, ∃ ag dr, s.takeMove.2 = { s with agenda := ag, draws := dr }) ∧
  (∀ s : State, s.agenda = [] → s.canAccept = true → s.takeMove = (.accept, s))

/-- A table word presented by `withFetchWord` is what the very next step runs, in every state (log entry 10, the model's
choice). -/
def Obligations.FetchWordRunsNext : Prop :=
  ∀ (s : State) (nbits w : Nat) (i : Instr), decodeTableWord nbits w = some i →
    step (s.withFetchWord nbits w) = exec i { s.withFetchWord nbits w with agenda := s.agenda }

/-- R33 and the waiting of R32: REQ_READY, and that a request presented while REQ_READY = 0 is not taken. -/
def Obligations.RequestWaitsWhenNotReady : Prop :=
  ∀ s : State,
    (s.reqReady = true ↔ s.fsm.code = 0 ∧ s.fault = false) ∧
    (s.reqReady = false ∨ s.pins.reqValid = false → applyMove .accept s = .next s)

/-! ## The scan -/

/-- R134 with R135, R136, R138, R139 and R140: the read-answer step in SCAN_REQ, every next state given whole: ERROR
first; then a match, on the last attempt and with CANCEL = 1 too; then the budget; then the empty read; then the miss,
where alone CANCEL is sampled. ATTEMPTS is counted in its register (00_scope.md R7): plus 1 below the budget, as R134 says; that
it wraps from there on, where no run comes, is the model's inference (log entry 9). -/
def Obligations.ScanAnswerStep : Prop :=
  ∀ s : State, s.fsm = .scanReq → s.pins.rst = false →
    let n := (s.attempts + 1) % 2 ^ attemptsWidth s.params
    (s.attempts < s.params.scanBudget → n = s.attempts + 1) ∧
    (∀ lost, applyMove (.answer (.error lost)) s =
      .next { s with pending := s.pending.drop (min lost 1), status := .transportError, done := true,
                     fsm := .idle }) ∧
    (∀ len rest, 1 ≤ len → s.pending = 0xAA :: rest →
      applyMove (.answer (.bytes len)) s =
        .next (if s.curOp = 0x4 then
          { s with pending := rest, attempts := n, rxFrame := s.rxFrame.set 0 0xAA, rxLen := 1,
                   status := .ok, done := true, fsm := .idle }
        else
          { s with pending := rest, attempts := n, rxFrame := s.rxFrame.set 0 0xAA, rxLen := 1,
                   fsm := .bodyReq })) ∧
    (∀ len, len = 0 ∨ s.pending = [] →
      applyMove (.answer (.bytes len)) s =
        .next (if n = s.params.scanBudget then
          { s with attempts := n, status := .noSync, done := true, fsm := .idle }
        else { s with attempts := n, fsm := .backoff })) ∧
    (∀ len b rest, 1 ≤ len → s.pending = b :: rest → b ≠ 0xAA →
      applyMove (.answer (.bytes len)) s =
        .next (if n = s.params.scanBudget then
          { s with pending := rest, attempts := n, status := .noSync, done := true, fsm := .idle }
        else if s.pins.cancel = true then
          { s with pending := rest, attempts := n, status := .cancelled, done := true, fsm := .idle }
        else { s with pending := rest, attempts := n, fsm := .scanReq }))

/-- R137: the backoff expiry, with CANCEL sampled; it does nothing where no backoff is running. -/
def Obligations.BackoffExpiryStep : Prop :=
  ∀ s : State, s.pins.rst = false →
    (s.fsm = .backoff → s.pins.cancel = true →
      applyMove .expire s = .next { s with status := .cancelled, done := true, fsm := .idle }) ∧
    (s.fsm = .backoff → s.pins.cancel = false → applyMove .expire s = .next { s with fsm := .scanReq }) ∧
    (s.fsm ≠ .backoff → applyMove .expire s = .next s)

/-- Only a miss and a backoff expiry sample CANCEL (60_exceptions.md section 2): every other move but the host's own
driving of its lines does the same whatever CANCEL is. -/
def Obligations.CancelSampledOnlyBetweenAttempts : Prop :=
  ∀ (m : Move) (s : State) (b : Bool), (∀ p, m ≠ .drive p) →
    ¬(m = .expire ∧ s.fsm = .backoff) →
    ¬((∃ len, m = .answer (.bytes (len + 1))) ∧ s.fsm = .scanReq ∧ ∃ x rest, s.pending = x :: rest ∧ x ≠ 0xAA) →
    applyMove m (s.withCancel b) = mapNext (State.withCancel b) (applyMove m s)

/-- R133 and R167: while a `StreamRead` is outstanding the block takes no step but its answer; with RST = 0, every other
move leaves every register of the block as it is, whatever CANCEL is. -/
def Obligations.OnlyAnswerMovesAReadingBlock : Prop :=
  ∀ (s t : State) (m : Move), s.fsm = .scanReq ∨ s.fsm = .bodyReq → s.pins.rst = false → (∀ a, m ≠ .answer a) →
    applyMove m s = .next t → SameBlock s t

/-! ## The body -/

/-- R161 with R162, R163, R164 and R165: the read-answer step in BODY_REQ, for every answer, with all that changes. -/
def Obligations.BodyAnswerStep : Prop :=
  ∀ s : State, s.fsm = .bodyReq → s.pins.rst = false →
    (∀ lost, applyMove (.answer (.error lost)) s =
      .next { s with pending := s.pending.drop (min lost 9), status := .transportError, done := true, fsm := .idle }) ∧
    (∀ len, let k := min (min len 9) s.pending.length
      ∃ (f : RespFrame) (st : Status),
        (∀ i : Fin 10, f[i] = if 1 ≤ i.val ∧ i.val ≤ k then s.pending.getD (i.val - 1) 0 else s.rxFrame[i]) ∧
        st = (if k < 9 then .shortRead
              else if s.params.strictChecksum = true ∧
                f[8].toNat ≠ (f[1].toNat + f[2].toNat + f[3].toNat + f[4].toNat + f[5].toNat + f[6].toNat + f[7].toNat) % 256
              then .checksumMismatch else .ok) ∧
        applyMove (.answer (.bytes len)) s =
          .next { s with
            pending := s.pending.drop k, rxFrame := f, rxLen := BitVec.ofNat 4 (1 + k), status := st, done := true
            fsm := .idle, frameValid := if st = .ok then true else s.frameValid })

/-- What each end of a scanning operation leaves (R138, R140, R162 to R165, R141 (a), 60_exceptions.md R202): the step that
takes a busy block to IDLE, other than reset, sets DONE with one of six statuses, and with each its registers. -/
def Obligations.EndOfScanningOperation : Prop :=
  ∀ s t : State, s.Inv → step s = .next t → s.busy = true → t.busy = false → ¬s.resets →
    t.done = true ∧ t.fault = false ∧ t.attempts ≤ s.params.scanBudget ∧
    (t.attempts = 0 → t.status = .transportError ∧ s.fsm = .scanReq) ∧
    t.status ∈ [.ok, .noSync, .shortRead, .transportError, .checksumMismatch, .cancelled] ∧
    (t.status = .ok → (s.curOp = 4 ∧ t.rxLen = 1 ∧ t.frameValid = false) ∨
      (s.curOp = 5 ∧ t.rxLen = 10 ∧ t.frameValid = true)) ∧
    (t.status ≠ .ok → t.frameValid = false) ∧
    (t.status = .noSync → t.attempts = s.params.scanBudget ∧ t.rxLen = 0) ∧
    (t.status = .cancelled → t.attempts < s.params.scanBudget ∧ t.rxLen = 0) ∧
    (t.status = .transportError → t.attempts = s.attempts ∧ t.rxLen = if s.fsm = .bodyReq then 1 else 0) ∧
    (t.status = .shortRead → 1 ≤ t.rxLen.toNat ∧ t.rxLen.toNat ≤ 9) ∧
    (t.status = .checksumMismatch → t.rxLen = 10 ∧ s.params.strictChecksum = true) ∧
    (t.rxLen ≠ 0 → t.rxFrame[0] = 0xAA)

/-! ## The stream -/

/-- The transport's answers (20_memory.md R52): to `StreamRead(n)` the model's draws give exactly the admitted answers, `R`
or ERROR with k bytes gone from the head of `pending`, for every k up to n (93_implementation_defined.md I4) and up to what is
pending. -/
def Obligations.AnswersAreTheAdmittedOnes : Prop :=
  ∀ (n : Nat) (s : State),
    (∀ a, ∃ k, k ≤ n ∧ k ≤ s.pending.length ∧
      (s.deliver n a = (.bytes (s.pending.take k), { s with pending := s.pending.drop k }) ∨
       s.deliver n a = (.error, { s with pending := s.pending.drop k }))) ∧
    (∀ k, k ≤ n → k ≤ s.pending.length →
      (∃ a, s.deliver n a = (.bytes (s.pending.take k), { s with pending := s.pending.drop k })) ∧
      (∃ a, s.deliver n a = (.error, { s with pending := s.pending.drop k })))

/-- RD_REQ_VALID is 1 exactly in SCAN_REQ and BODY_REQ, with n = 1 and n = 9 (10_state.md sections 3 and 5). What RD_REQ_N
shows where no read is outstanding is left out, as log entry 14 says. -/
def Obligations.OutstandingReadFollowsFsm : Prop :=
  ∀ s : State,
    (s.rdReq.isSome = true ↔ s.fsm = .scanReq ∨ s.fsm = .bodyReq) ∧ (s.fsm = .scanReq → s.rdReq = some 1) ∧
    (s.fsm = .bodyReq → s.rdReq = some 9) ∧ s.outstanding = (s.rdReq.map BitVec.toNat).getD 0

/-- The block receives a prefix of the arrival sequence with no gap (20_memory.md sections 2 and 6): a step takes bytes
only from the head of `pending`, only as the answer to the outstanding read or at the reset that abandons it, and at most
as many as that read asks for; bytes are added only at the end, by arrival. -/
def Obligations.StreamTakenFromHeadInOrder : Prop :=
  ∀ s t : State, step s = .next t → ∃ (k : Nat) (arrived : List Byte),
    t.pending = s.pending.drop k ++ arrived ∧ k ≤ s.outstanding ∧
    (0 < k → (∃ a, s.takeMove.1 = .answer a) ∨ s.resets) ∧
    (arrived ≠ [] → s.takeMove.1 = .arrive arrived ∧ k = 0)

/-- Case (d) of the scan's properties (41_stream_reader.md section 2): with the reference transport, a scan whose stream
has its first 0xAA at index j < SCAN_BUDGET matches at attempt j + 1 and consumes j + 1 bytes, from every start state. -/
def Obligations.ScanFindsFirstHeader : Prop :=
  ∀ (s : State) (pre post : List Byte) (rest : List Move),
    s.fsm = .scanReq → s.attempts = 0 → s.pins.rst = false → s.pins.cancel = false →
    s.pending = pre ++ 0xAA :: post → (0xAA : Byte) ∉ pre → pre.length < s.params.scanBudget →
    s.agenda = (referenceAnswers (pre.length + 1)).map .answer ++ rest →
    ∃ t, core.run (pre.length + 1) s = .next t ∧
      t.attempts = pre.length + 1 ∧ t.pending = post ∧ t.rxLen = 1 ∧ t.rxFrame[0] = 0xAA ∧ t.agenda = rest ∧
      (s.curOp = 4 → t.fsm = .idle ∧ t.done = true ∧ t.status = .ok) ∧
      (s.curOp ≠ 4 → t.fsm = .bodyReq ∧ t.rdReq = some 9)

/-- Case (d), no header within the first min(len(pending), SCAN_BUDGET) bytes: with the reference transport the scan ends
NO_SYNC after exactly SCAN_BUDGET attempts and consumes min(len(pending), SCAN_BUDGET) bytes. -/
def Obligations.ScanWithoutHeaderEndsNoSync : Prop :=
  ∀ (s : State) (rest : List Move),
    s.fsm = .scanReq → s.attempts = 0 → s.pins.rst = false → s.pins.cancel = false → 1 ≤ s.params.scanBudget →
    (0xAA : Byte) ∉ s.pending.take s.params.scanBudget →
    s.agenda = fairAnswers (referenceAnswers s.params.scanBudget) ++ rest →
    ∃ t, core.run (2 * s.params.scanBudget) s = .next t ∧
      t.fsm = .idle ∧ t.done = true ∧ t.status = .noSync ∧ t.attempts = s.params.scanBudget ∧
      t.rxLen = s.rxLen ∧ t.frameValid = s.frameValid ∧ t.pending = s.pending.drop s.params.scanBudget ∧ t.agenda = rest

/-- Every scan ends (41_stream_reader.md section 2, 70_reset_and_hazards.md section 4): whatever the transport answers and
whatever CANCEL is, SCAN_BUDGET answers, each followed by the end of the backoff wait it may have started, end the scan. -/
def Obligations.EveryScanEnds : Prop :=
  ∀ (s : State) (as : List Answer) (rest : List Move), s.Inv → s.pins.rst = false →
    s.fsm = .scanReq ∨ s.fsm = .backoff → as.length = s.params.scanBudget →
    s.agenda = fairAnswers as ++ rest →
    ∃ t, core.run (2 * s.params.scanBudget) s = .next t ∧ t.fsm ≠ .scanReq ∧ t.fsm ≠ .backoff ∧
      t.attempts ≤ s.params.scanBudget

/-- Fairness (70_reset_and_hazards.md section 4): in every endless run whose agents move in any order, with RST low from the
accept on, every accepted request completes: DONE = 1 and IDLE, for the first time since the accept. FINDSTART needs the
answers to its `StreamRead(1)` and the backoff expiries to be weakly fair, READFRAME the answer to its `StreamRead(9)` too,
the other requests and illegal words nothing. -/
def Obligations.EveryRequestCompletesUnderFairness : Prop :=
  ∀ (mv : Nat → Move) (σ : Nat → State) (n : Nat), isRun mv σ → (σ n).Inv → mv n = .accept → (σ n).canAccept = true →
    (∀ m, n ≤ m → (σ m).pins.rst = false) →
    (∀ i, decode (σ n).pins.reqCtrl (σ n).pins.reqPayload = .ok i →
      (scans i → fairScanAnswers mv σ ∧ fairExpiry mv σ) ∧ (i.op = 0x5 → fairBodyAnswers mv σ)) →
    ∃ m, n < m ∧ (σ m).fsm = .idle ∧ (σ m).done = true ∧ ∀ k, n < k → k < m → (σ k).done = false

/-- Every order of the agents' moves is a run of the machine: with a list of moves at the head of the agenda (log entry 3,
the model's choice), that many steps do exactly what those moves do one after the other, and leave the rest of the agenda. -/
def Obligations.AgendaRunsAnyMoves : Prop :=
  ∀ (ms rest : List Move) (s : State),
    core.run ms.length { s with agenda := ms ++ rest } =
      mapNext (fun t => { t with agenda := rest }) (applyMoves ms s)

/-- No backoff after a miss changes no result (70_reset_and_hazards.md section 4): a miss, where the budget is not
exhausted, does what a backoff wait after it and that wait's expiry would do. -/
def Obligations.BackoffAfterMissWouldChangeNothing : Prop :=
  ∀ (s : State) (b : Byte) (rest : List Byte), s.fsm = .scanReq → s.pins.rst = false → s.pending = b :: rest → b ≠ 0xAA →
    s.countAttempt.attempts ≠ s.params.scanBudget →
    applyMove (.answer (.bytes 1)) s = applyMove .expire { s.countAttempt with pending := rest, fsm := .backoff }

/-- READFRAME over the reference transport (41_stream_reader.md section 2, 42_response_decoder.md section 1): it returns
the first 0xAA and the nine bytes after it, drops what came before, and leaves what follows. -/
def Obligations.ReadFrameReturnsFirstFrame : Prop :=
  ∀ (s : State) (pre body post : List Byte) (rest : List Move),
    s.fsm = .scanReq → s.curOp = 0x5 → s.attempts = 0 → s.pins.rst = false → s.pins.cancel = false →
    s.pending = pre ++ 0xAA :: (body ++ post) → (0xAA : Byte) ∉ pre → pre.length < s.params.scanBudget →
    body.length = 9 →
    s.agenda = (referenceAnswers (pre.length + 2)).map .answer ++ rest →
    ∃ t, core.run (pre.length + 2) s = .next t ∧
      t.fsm = .idle ∧ t.done = true ∧ t.rxLen = 10 ∧ t.rxFrame.toList = 0xAA :: body ∧ t.pending = post ∧
      t.attempts = pre.length + 1 ∧
      (s.params.strictChecksum = false ∨ byteSum (body.take 7) % 256 = (body.getD 7 0).toNat →
        t.status = .ok ∧ t.frameValid = true) ∧
      (s.params.strictChecksum = true → byteSum (body.take 7) % 256 ≠ (body.getD 7 0).toNat →
        t.status = .checksumMismatch ∧ t.frameValid = s.frameValid)

/-! ## Completion, flags and fatal stop -/

/-- R201: the fatal statuses are the three, each sets FAULT, and after that no step but reset changes the block. -/
def Obligations.FatalStopsUntilReset : Prop :=
  (∀ st : Status, st = .invalidPayload ∨ st = .illegalOp ∨ st = .invalidCommand ↔ st.fatal = true) ∧
  (∀ (st : Status) (s : State), (s.complete st).fault = (s.fault || st.fatal)) ∧
  (∀ s t : State, s.Inv → s.fault = true → step s = .next t →
    s.reqReady = false ∧ (s.resets ∨ (SameBlock s t ∧ t.fault = true)))

/-- R200: the twelve codes of STATUS. -/
def Obligations.StatusCodes : Prop :=
  [Status.none, .ok, .invalidPayload, .noSync, .shortRead, .transportError, .notQueryAck, .shortFrame, .checksumMismatch,
    .illegalOp, .invalidCommand, .cancelled].map Status.code = [0, 1, 2, 3, 4, 5, 6, 7, 8, 9, 10, 11] ∧
  ∀ a b : Status, a.code = b.code → a = b

/-- A host that keeps its obligations never meets a stop (70_reset_and_hazards.md section 3): from a state with FAULT = 0,
with a legal request of an allowed command and length wherever one is accepted, and no read of a register without a value,
the step answers a next state with FAULT = 0; accepting any other request leaves FAULT = 1. -/
def Obligations.AllowedRequestsKeepRunsSafe : Prop :=
  ∀ s : State,
    (s.fault = false →
      (s.acceptsAny → requestAllowed s.params ⟨s.pins.reqCtrl, s.pins.reqPayload⟩ = true) →
      (∀ r f, s.takeMove.1 = .hostRead r → s.readOut r ≠ .error f) → safeOutcome (step s)) ∧
    (s.acceptsAny → requestAllowed s.params ⟨s.pins.reqCtrl, s.pins.reqPayload⟩ = false →
      ∃ t, step s = .next t ∧ t.fault = true)

/-- The only step that stops the machine is a host read of a register without a value (10_state.md section 2); no step is
refused. -/
def Obligations.OnlyHostReadsStop : Prop :=
  ∀ s : State, (∀ r, step s ≠ .refused r) ∧
    ∀ f, step s = .fault f ↔ ∃ r, s.takeMove.1 = .hostRead r ∧ s.readOut r = .error f

/-- R36: the flags change only in the steps its table lists, and only in the direction it lists them for. -/
def Obligations.FlagsChangeOnlyAsListed : Prop :=
  ∀ s t : State, s.Inv → step s = .next t →
    (s.done = false → t.done = true → t.status ≠ .none ∧ t.fsm = .idle) ∧
    (s.done = true → t.done = false → s.acceptsAny ∨ s.resets) ∧
    (s.fault = false → t.fault = true →
      t.status = .illegalOp ∨ t.status = .invalidPayload ∨ t.status = .invalidCommand) ∧
    (s.fault = true → t.fault = false → s.resets) ∧
    (s.busy = false → t.busy = true → ∃ i, s.accepts i ∧ scans i) ∧
    (s.busy = true → t.busy = false → t.done = true ∨ s.resets) ∧
    (s.frameValid = false → t.frameValid = true → s.fsm = .bodyReq ∧ s.curOp = 5 ∧ t.status = .ok ∧ t.done = true) ∧
    (s.frameValid = true → t.frameValid = false → (∃ i, s.accepts i ∧ scans i) ∨ s.resets) ∧
    (s.txValid = false → t.txValid = true → ∃ c n l, s.accepts (.encode c n l) ∧ t.status = .ok) ∧
    (s.txValid = true → t.txValid = false → (∃ c n l, s.accepts (.encode c n l) ∧ t.status ≠ .ok) ∨ s.resets) ∧
    (s.cksumValid = false → t.cksumValid = true →
      ∃ c n l, (s.accepts (.cksumC c n l) ∨ s.accepts (.cksumR c n l)) ∧ t.status = .ok) ∧
    (s.cksumValid = true → t.cksumValid = false → (∃ c n l, s.accepts (.cksumC c n l) ∧ t.status ≠ .ok) ∨ s.resets) ∧
    (s.readingValid = false → t.readingValid = true → ∃ c n l, s.accepts (.decode c n l) ∧ t.status = .ok) ∧
    (s.readingValid = true → t.readingValid = false → (∃ c n l, s.accepts (.decode c n l) ∧ t.status ≠ .ok) ∨ s.resets)

/-- R34: the fields of STATUS_WORD, its hardwired bit 15, that the reserved status codes are never produced, and that no
host move writes it. -/
def Obligations.StatusWordFields : Prop :=
  ∀ s : State,
    (let w := s.statusWord
     w.extractLsb' 0 4 = s.status.code ∧ w.getLsbD 4 = s.done ∧ w.getLsbD 5 = s.fault ∧
     w.getLsbD 6 = (s.fsm != .idle) ∧ w.getLsbD 7 = s.frameValid ∧ w.getLsbD 8 = s.txValid ∧
     w.getLsbD 9 = s.cksumValid ∧ w.getLsbD 10 = s.readingValid ∧ w.extractLsb' 11 4 = s.rxLen ∧ w.getLsbD 15 = false) ∧
    s.status.code.toNat < 0xC ∧ State.reset.statusWord = 0 ∧
    (s.Inv → (s.statusWord.extractLsb' 11 4).toNat ≤ 10) ∧
    (∀ (p : HostPins) (t : State), applyMove (.drive p) s = .next t → t.statusWord = s.statusWord)

/-! ## Host reads -/

/-- Host reads (10_state.md sections 2 and 3), for every output in every state: a read of a register element that holds no
value is a fault, a read of any other returns the register as an unsigned number, and a read that is no fault changes
nothing. RX_LEN says which elements of RX_FRAME hold a value, and the model's own marks which other registers do (log
entry 2), which right after reset are none of them; what a read returns is in no field of the state (log entry 18). -/
def Obligations.HostReadOfNoValueFaults : Prop :=
  (∀ s : State,
    s.readOut .statusWord = .ok s.statusWord.toNat ∧ s.readOut .status = .ok s.status.code.toNat ∧
    s.readOut .done = .ok s.done.toNat ∧ s.readOut .fault = .ok s.fault.toNat ∧
    s.readOut .busy = .ok (if s.fsm = .idle then 0 else 1) ∧
    s.readOut .reqReady = .ok (if s.fsm = .idle ∧ s.fault = false then 1 else 0) ∧
    s.readOut .frameValid = .ok s.frameValid.toNat ∧ s.readOut .txValid = .ok s.txValid.toNat ∧
    s.readOut .cksumValid = .ok s.cksumValid.toNat ∧ s.readOut .readingValid = .ok s.readingValid.toNat ∧
    s.readOut .attempts = .ok s.attempts ∧ s.readOut .rxLen = .ok s.rxLen.toNat ∧
    (∀ i : Fin 10, s.readOut (.rxFrame i) =
      if i.val < s.rxLen.toNat then .ok s.rxFrame[i].toNat else .error (.readNoValue (.rxFrame i))) ∧
    (∀ i : Fin 19, s.readOut (.txFrame i) =
      if s.txHolds = true then .ok s.txFrame[i].toNat else .error (.readNoValue (.txFrame i))) ∧
    s.readOut .cksumOut = (if s.cksumHolds = true then .ok s.cksumOut.toNat else .error (.readNoValue .cksumOut)) ∧
    s.readOut .pm25Raw = (if s.readingHolds = true then .ok s.pm25Raw.toNat else .error (.readNoValue .pm25Raw)) ∧
    s.readOut .pm10Raw = (if s.readingHolds = true then .ok s.pm10Raw.toNat else .error (.readNoValue .pm10Raw))) ∧
  (∀ (s : State) (r : OutReg),
    (∀ v, s.readOut r = .ok v → applyMove (.hostRead r) s = .next s) ∧
    (∀ f, s.readOut r = .error f → applyMove (.hostRead r) s = .fault f)) ∧
  (∀ r : OutReg, (∃ v, State.reset.readOut r = .ok v) ↔
    ¬((∃ i, r = .rxFrame i) ∨ (∃ i, r = .txFrame i) ∨ r = .cksumOut ∨ r = .pm25Raw ∨ r = .pm10Raw))

/-- The contents of registers that hold no value are never seen: two states with the invariant that differ only in them
give the same host reads, the same kind of step, and next states that differ only in them. So nothing rests on the reset
contents of log entry 1 (the model's choice; 92_eei_decisions.md D19). -/
def Obligations.ValuelessRegistersAreNeverSeen : Prop :=
  ∀ s t : State, s.Inv → t.Inv → SameHeld s t →
    (∀ r, s.readOut r = t.readOut r) ∧ outcomesAgree SameHeld (step s) (step t)

/-! ## Reset, invariant, configuration -/

/-- R230 and R231: while RST = 1 the reset step is enabled and no other move changes the block. It writes the registers
R230 lists, whatever was in progress, leaves the others without a value (a host read of them is a fault), keeps the
parameters, and makes REQ_READY = 1 and BUSY = 0; the abandoned read has taken a draw of 0 to n bytes from the head. -/
def Obligations.ResetStepWritesResetValues : Prop :=
  ∀ s : State, s.pins.rst = true →
    (∀ lost, let n := match s.fsm with
        | .scanReq => 1
        | .bodyReq => 9
        | .idle => 0
        | .backoff => 0
      ∃ t, applyMove (.reset lost) s = .next t ∧
        t.fsm = .idle ∧ t.attempts = 0 ∧ t.rxLen = 0 ∧ t.frameValid = false ∧ t.txValid = false ∧ t.cksumValid = false ∧
        t.readingValid = false ∧ t.status = .none ∧ t.done = false ∧ t.fault = false ∧
        (∀ i, t.readOut (.rxFrame i) = .error (.readNoValue (.rxFrame i))) ∧
        (∀ i, t.readOut (.txFrame i) = .error (.readNoValue (.txFrame i))) ∧
        (∀ r, r ∈ [.cksumOut, .pm25Raw, .pm10Raw] → t.readOut r = .error (.readNoValue r)) ∧
        t.reqReady = true ∧ t.busy = false ∧ t.rdReq = none ∧
        t.pins = s.pins ∧ t.params = s.params ∧ t.pending = s.pending.drop (min lost n)) ∧
    (∀ (m : Move) (t : State), (∀ lost, m ≠ .reset lost) → applyMove m s = .next t → SameBlock s t)

/-- The state right after reset meets the invariant; and so does the state after the reset step, from every state whatever
was in progress, for every value of the parameters with SCAN_BUDGET at least 1 (10_state.md section 5,
70_reset_and_hazards.md sections 1 and 2). -/
def Obligations.ResetMeetsInvariant : Prop :=
  State.reset.Inv ∧
  ∀ (s : State) (lost : Nat), s.pins.rst = true → 1 ≤ s.params.scanBudget →
    ∃ t, applyMove (.reset lost) s = .next t ∧ t.params = s.params ∧ t.Inv

/-- Every step keeps the invariant, from every state that meets it, whatever the agents do. -/
def Obligations.StepKeepsInvariant : Prop := ∀ s t : State, s.Inv → step s = .next t → t.Inv

/-- R38: no step writes the parameters. -/
def Obligations.ParametersAreFixed : Prop := ∀ s t : State, step s = .next t → t.params = s.params

/-- ATTEMPTS fits its register and never exceeds SCAN_BUDGET (10_state.md section 2, 00_scope.md section 3): the register
has 7 bits for a budget of at most 127, else ceil(log2(SCAN_BUDGET + 1)); the budget itself fits; a step from any state in
which ATTEMPTS fits leaves it fitting; and in states with the invariant it is within the budget. That it counts in a Nat
modulo the register's size is log entry 9. -/
def Obligations.AttemptsFitTheirRegister : Prop :=
  (∀ p : Params, p.scanBudget < 2 ^ attemptsWidth p ∧ (p.scanBudget ≤ 127 → attemptsWidth p = 7) ∧
    (127 < p.scanBudget → attemptsWidth p = Nat.clog 2 (p.scanBudget + 1))) ∧
  (∀ s t : State, s.attempts < 2 ^ attemptsWidth s.params → step s = .next t →
    t.attempts < 2 ^ attemptsWidth t.params) ∧
  ∀ s : State, s.Inv → s.attempts ≤ s.params.scanBudget

/-- "No rule in this spec depends on the value of BACKOFF" (00_scope.md section 3): a step does the same for every value. -/
def Obligations.BackoffValueIsIrrelevant : Prop :=
  ∀ (s : State) (ms : Nat), step (s.withBackoff ms) = mapNext (State.withBackoff ms) (step s)
end

