-- ==== Sys2Proof/Laws/Decode.lean ====
section
/-! SUPPORT. Lemmas about the control word's fields, its packing and the lanes. -/

namespace Sys2Proof

/-! ## Lanes -/

@[simp] theorem lanesOf_toList (l : Lanes) : lanesOf l.toList = l := by
  ext i h
  simp [lanesOf]

theorem toList_lanesOf (l : List Byte) (h : l.length = 12) : (lanesOf l).toList = l := by
  apply List.ext_getElem
  · simp [h]
  · intro i _ h2
    simp [lanesOf]
    rw [List.getElem?_eq_getElem h2]
    simp

/-! ## The control word -/

/-- The fields of a packed control word are what was packed. -/
theorem packCtrl_fields (op : BitVec 4) (c p : Byte) :
    ctrlOp (packCtrl op c p) = op ∧ ctrlReservedLow (packCtrl op c p) = 0 ∧ ctrlCmd (packCtrl op c p) = c ∧
      ctrlPlen (packCtrl op c p) = p ∧ ctrlReservedHigh (packCtrl op c p) = 0 := by
  refine ⟨?_, ?_, ?_, ?_, ?_⟩ <;>
  · simp only [ctrlOp, ctrlReservedLow, ctrlCmd, ctrlPlen, ctrlReservedHigh, packCtrl]
    apply BitVec.eq_of_getLsbD_eq
    intro i hi
    interval_cases i <;> simp [BitVec.getLsbD_of_ge]

@[simp] theorem ctrlOp_packCtrl (op : BitVec 4) (c p : Byte) : ctrlOp (packCtrl op c p) = op :=
  (packCtrl_fields op c p).1

@[simp] theorem ctrlReservedLow_packCtrl (op : BitVec 4) (c p : Byte) : ctrlReservedLow (packCtrl op c p) = 0 :=
  (packCtrl_fields op c p).2.1

@[simp] theorem ctrlCmd_packCtrl (op : BitVec 4) (c p : Byte) : ctrlCmd (packCtrl op c p) = c :=
  (packCtrl_fields op c p).2.2.1

@[simp] theorem ctrlPlen_packCtrl (op : BitVec 4) (c p : Byte) : ctrlPlen (packCtrl op c p) = p :=
  (packCtrl_fields op c p).2.2.2.1

@[simp] theorem ctrlReservedHigh_packCtrl (op : BitVec 4) (c p : Byte) : ctrlReservedHigh (packCtrl op c p) = 0 :=
  (packCtrl_fields op c p).2.2.2.2

/-- A control word with its reserved bits 0 is the packing of its fields. -/
theorem packCtrl_of_fields (w : Ctrl) (hl : ctrlReservedLow w = 0) (hh : ctrlReservedHigh w = 0) :
    packCtrl (ctrlOp w) (ctrlCmd w) (ctrlPlen w) = w := by
  have a : ∀ i, (ctrlReservedLow w).getLsbD i = false := by simp [hl]
  have b : ∀ i, (ctrlReservedHigh w).getLsbD i = false := by simp [hh]
  simp only [ctrlOp, ctrlCmd, ctrlPlen, packCtrl]
  apply BitVec.eq_of_getLsbD_eq
  intro i hi
  have a' := a (i - 4)
  have b' := b (i - 24)
  simp only [ctrlReservedLow, ctrlReservedHigh] at a' b'
  interval_cases i <;> simp_all [BitVec.getLsbD_of_ge]

/-- The table's selecting pattern, in fields: both reserved fields 0 and OP = k. -/
theorem mask_eq_iff (w : Ctrl) (k : BitVec 4) : w &&& 0xFF0000FF = k.setWidth 32 ↔
    ctrlReservedLow w = 0 ∧ ctrlReservedHigh w = 0 ∧ ctrlOp w = k := by
  constructor
  · intro h
    have hb : ∀ i, (w &&& 0xFF0000FF#32).getLsbD i = (k.setWidth 32).getLsbD i := fun i =>
      congrArg (fun v => v.getLsbD i) h
    refine ⟨?_, ?_, ?_⟩
    · apply BitVec.eq_of_getLsbD_eq
      intro i hi
      have := hb (4 + i)
      interval_cases i <;> simp [BitVec.getLsbD_of_ge] at this <;> simp [ctrlReservedLow, this]
    · apply BitVec.eq_of_getLsbD_eq
      intro i hi
      have := hb (24 + i)
      interval_cases i <;> simp [BitVec.getLsbD_of_ge] at this <;> simp [ctrlReservedHigh, this]
    · apply BitVec.eq_of_getLsbD_eq
      intro i hi
      have := hb i
      interval_cases i <;> simp at this <;> simp [ctrlOp, this]
  · rintro ⟨h1, h2, h3⟩
    have a : ∀ i, (ctrlReservedLow w).getLsbD i = false := by simp [h1]
    have b : ∀ i, (ctrlReservedHigh w).getLsbD i = false := by simp [h2]
    have c : ∀ i, (ctrlOp w).getLsbD i = k.getLsbD i := by simp [h3]
    apply BitVec.eq_of_getLsbD_eq
    intro i hi
    have a' := a (i - 4)
    have b' := b (i - 24)
    have c' := c i
    simp only [ctrlOp, ctrlReservedLow, ctrlReservedHigh] at a' b' c'
    interval_cases i <;> simp_all [BitVec.getLsbD_of_ge]

/-- With both reserved fields 0, the op code decides. -/
theorem decode_of_reserved_zero (c : Ctrl) (l : Lanes) (hl : ctrlReservedLow c = 0) (hh : ctrlReservedHigh c = 0) :
    decode c l = requestOf (ctrlOp c) (ctrlCmd c) (ctrlPlen c) l.toList := by
  rw [decode, if_neg (by simp [hl]), if_neg (by simp [hh])]

/-- All the decoder can answer. -/
theorem decode_cases (c : Ctrl) (l : Lanes) :
    ((ctrlReservedLow c ≠ 0#4 ∨ ctrlReservedHigh c ≠ 0#8 ∨ ctrlOp c ∉ [1#4, 2#4, 3#4, 4#4, 5#4, 6#4]) ∧
      ∃ e, decode c l = .error e) ∨
    (ctrlReservedLow c = 0#4 ∧ ctrlReservedHigh c = 0#8 ∧ ctrlOp c ∈ [1#4, 2#4, 3#4, 4#4, 5#4, 6#4] ∧
      ∃ i, decode c l = .ok i ∧ i.op = ctrlOp c ∧ i.cmd = ctrlCmd c ∧ i.plen = ctrlPlen c ∧ i.lanes = l.toList) := by
  by_cases h1 : ctrlReservedLow c = 0#4
  · by_cases h2 : ctrlReservedHigh c = 0#8
    · rw [decode_of_reserved_zero c l h1 h2]
      unfold requestOf
      split <;> simp_all [Instr.op, Instr.cmd, Instr.plen, Instr.lanes]
    · simp [decode, h1, h2]
  · simp [decode, h1]

end Sys2Proof
end

