-- ==== Sys2Proof/Laws/State.lean ====
section
/-! SUPPORT. One lemma per field per update of the state: what each named operation writes, and what it leaves. -/

namespace Sys2Proof.Machine.State

variable (s : State)

/-! ### complete -/

@[simp] theorem complete_fsm (st : Status) : (s.complete st).fsm = .idle := rfl
@[simp] theorem complete_curOp (st : Status) : (s.complete st).curOp = s.curOp := rfl
@[simp] theorem complete_attempts (st : Status) : (s.complete st).attempts = s.attempts := rfl
@[simp] theorem complete_rxFrame (st : Status) : (s.complete st).rxFrame = s.rxFrame := rfl
@[simp] theorem complete_rxLen (st : Status) : (s.complete st).rxLen = s.rxLen := rfl
@[simp] theorem complete_frameValid (st : Status) : (s.complete st).frameValid = s.frameValid := rfl
@[simp] theorem complete_txFrame (st : Status) : (s.complete st).txFrame = s.txFrame := rfl
@[simp] theorem complete_txHolds (st : Status) : (s.complete st).txHolds = s.txHolds := rfl
@[simp] theorem complete_txValid (st : Status) : (s.complete st).txValid = s.txValid := rfl
@[simp] theorem complete_cksumOut (st : Status) : (s.complete st).cksumOut = s.cksumOut := rfl
@[simp] theorem complete_cksumHolds (st : Status) : (s.complete st).cksumHolds = s.cksumHolds := rfl
@[simp] theorem complete_cksumValid (st : Status) : (s.complete st).cksumValid = s.cksumValid := rfl
@[simp] theorem complete_pm25Raw (st : Status) : (s.complete st).pm25Raw = s.pm25Raw := rfl
@[simp] theorem complete_pm10Raw (st : Status) : (s.complete st).pm10Raw = s.pm10Raw := rfl
@[simp] theorem complete_readingHolds (st : Status) : (s.complete st).readingHolds = s.readingHolds := rfl
@[simp] theorem complete_readingValid (st : Status) : (s.complete st).readingValid = s.readingValid := rfl
@[simp] theorem complete_status (st : Status) : (s.complete st).status = st := rfl
@[simp] theorem complete_done (st : Status) : (s.complete st).done = true := rfl
@[simp] theorem complete_fault (st : Status) : (s.complete st).fault = (s.fault || st.fatal) := rfl
@[simp] theorem complete_pins (st : Status) : (s.complete st).pins = s.pins := rfl
@[simp] theorem complete_pending (st : Status) : (s.complete st).pending = s.pending := rfl
@[simp] theorem complete_params (st : Status) : (s.complete st).params = s.params := rfl
@[simp] theorem complete_agenda (st : Status) : (s.complete st).agenda = s.agenda := rfl
@[simp] theorem complete_draws (st : Status) : (s.complete st).draws = s.draws := rfl

/-! ### beginOp -/

@[simp] theorem beginOp_fsm (op : BitVec 4) : (s.beginOp op).fsm = s.fsm := rfl
@[simp] theorem beginOp_curOp (op : BitVec 4) : (s.beginOp op).curOp = op := rfl
@[simp] theorem beginOp_attempts (op : BitVec 4) : (s.beginOp op).attempts = s.attempts := rfl
@[simp] theorem beginOp_rxFrame (op : BitVec 4) : (s.beginOp op).rxFrame = s.rxFrame := rfl
@[simp] theorem beginOp_rxLen (op : BitVec 4) : (s.beginOp op).rxLen = s.rxLen := rfl
@[simp] theorem beginOp_frameValid (op : BitVec 4) : (s.beginOp op).frameValid = s.frameValid := rfl
@[simp] theorem beginOp_txFrame (op : BitVec 4) : (s.beginOp op).txFrame = s.txFrame := rfl
@[simp] theorem beginOp_txHolds (op : BitVec 4) : (s.beginOp op).txHolds = s.txHolds := rfl
@[simp] theorem beginOp_txValid (op : BitVec 4) : (s.beginOp op).txValid = s.txValid := rfl
@[simp] theorem beginOp_cksumOut (op : BitVec 4) : (s.beginOp op).cksumOut = s.cksumOut := rfl
@[simp] theorem beginOp_cksumHolds (op : BitVec 4) : (s.beginOp op).cksumHolds = s.cksumHolds := rfl
@[simp] theorem beginOp_cksumValid (op : BitVec 4) : (s.beginOp op).cksumValid = s.cksumValid := rfl
@[simp] theorem beginOp_pm25Raw (op : BitVec 4) : (s.beginOp op).pm25Raw = s.pm25Raw := rfl
@[simp] theorem beginOp_pm10Raw (op : BitVec 4) : (s.beginOp op).pm10Raw = s.pm10Raw := rfl
@[simp] theorem beginOp_readingHolds (op : BitVec 4) : (s.beginOp op).readingHolds = s.readingHolds := rfl
@[simp] theorem beginOp_readingValid (op : BitVec 4) : (s.beginOp op).readingValid = s.readingValid := rfl
@[simp] theorem beginOp_status (op : BitVec 4) : (s.beginOp op).status = .none := rfl
@[simp] theorem beginOp_done (op : BitVec 4) : (s.beginOp op).done = false := rfl
@[simp] theorem beginOp_fault (op : BitVec 4) : (s.beginOp op).fault = s.fault := rfl
@[simp] theorem beginOp_pins (op : BitVec 4) : (s.beginOp op).pins = s.pins := rfl
@[simp] theorem beginOp_pending (op : BitVec 4) : (s.beginOp op).pending = s.pending := rfl
@[simp] theorem beginOp_params (op : BitVec 4) : (s.beginOp op).params = s.params := rfl
@[simp] theorem beginOp_agenda (op : BitVec 4) : (s.beginOp op).agenda = s.agenda := rfl
@[simp] theorem beginOp_draws (op : BitVec 4) : (s.beginOp op).draws = s.draws := rfl

/-! ### scanStart -/

@[simp] theorem scanStart_fsm : s.scanStart.fsm = .scanReq := rfl
@[simp] theorem scanStart_curOp : s.scanStart.curOp = s.curOp := rfl
@[simp] theorem scanStart_attempts : s.scanStart.attempts = 0 := rfl
@[simp] theorem scanStart_rxFrame : s.scanStart.rxFrame = s.rxFrame := rfl
@[simp] theorem scanStart_rxLen : s.scanStart.rxLen = 0 := rfl
@[simp] theorem scanStart_frameValid : s.scanStart.frameValid = false := rfl
@[simp] theorem scanStart_txFrame : s.scanStart.txFrame = s.txFrame := rfl
@[simp] theorem scanStart_txHolds : s.scanStart.txHolds = s.txHolds := rfl
@[simp] theorem scanStart_txValid : s.scanStart.txValid = s.txValid := rfl
@[simp] theorem scanStart_cksumOut : s.scanStart.cksumOut = s.cksumOut := rfl
@[simp] theorem scanStart_cksumHolds : s.scanStart.cksumHolds = s.cksumHolds := rfl
@[simp] theorem scanStart_cksumValid : s.scanStart.cksumValid = s.cksumValid := rfl
@[simp] theorem scanStart_pm25Raw : s.scanStart.pm25Raw = s.pm25Raw := rfl
@[simp] theorem scanStart_pm10Raw : s.scanStart.pm10Raw = s.pm10Raw := rfl
@[simp] theorem scanStart_readingHolds : s.scanStart.readingHolds = s.readingHolds := rfl
@[simp] theorem scanStart_readingValid : s.scanStart.readingValid = s.readingValid := rfl
@[simp] theorem scanStart_status : s.scanStart.status = s.status := rfl
@[simp] theorem scanStart_done : s.scanStart.done = s.done := rfl
@[simp] theorem scanStart_fault : s.scanStart.fault = s.fault := rfl
@[simp] theorem scanStart_pins : s.scanStart.pins = s.pins := rfl
@[simp] theorem scanStart_pending : s.scanStart.pending = s.pending := rfl
@[simp] theorem scanStart_params : s.scanStart.params = s.params := rfl
@[simp] theorem scanStart_agenda : s.scanStart.agenda = s.agenda := rfl
@[simp] theorem scanStart_draws : s.scanStart.draws = s.draws := rfl

/-! ### goto -/

@[simp] theorem goto_fsm (f : FsmState) : (s.goto f).fsm = f := rfl
@[simp] theorem goto_curOp (f : FsmState) : (s.goto f).curOp = s.curOp := rfl
@[simp] theorem goto_attempts (f : FsmState) : (s.goto f).attempts = s.attempts := rfl
@[simp] theorem goto_rxFrame (f : FsmState) : (s.goto f).rxFrame = s.rxFrame := rfl
@[simp] theorem goto_rxLen (f : FsmState) : (s.goto f).rxLen = s.rxLen := rfl
@[simp] theorem goto_frameValid (f : FsmState) : (s.goto f).frameValid = s.frameValid := rfl
@[simp] theorem goto_txFrame (f : FsmState) : (s.goto f).txFrame = s.txFrame := rfl
@[simp] theorem goto_txHolds (f : FsmState) : (s.goto f).txHolds = s.txHolds := rfl
@[simp] theorem goto_txValid (f : FsmState) : (s.goto f).txValid = s.txValid := rfl
@[simp] theorem goto_cksumOut (f : FsmState) : (s.goto f).cksumOut = s.cksumOut := rfl
@[simp] theorem goto_cksumHolds (f : FsmState) : (s.goto f).cksumHolds = s.cksumHolds := rfl
@[simp] theorem goto_cksumValid (f : FsmState) : (s.goto f).cksumValid = s.cksumValid := rfl
@[simp] theorem goto_pm25Raw (f : FsmState) : (s.goto f).pm25Raw = s.pm25Raw := rfl
@[simp] theorem goto_pm10Raw (f : FsmState) : (s.goto f).pm10Raw = s.pm10Raw := rfl
@[simp] theorem goto_readingHolds (f : FsmState) : (s.goto f).readingHolds = s.readingHolds := rfl
@[simp] theorem goto_readingValid (f : FsmState) : (s.goto f).readingValid = s.readingValid := rfl
@[simp] theorem goto_status (f : FsmState) : (s.goto f).status = s.status := rfl
@[simp] theorem goto_done (f : FsmState) : (s.goto f).done = s.done := rfl
@[simp] theorem goto_fault (f : FsmState) : (s.goto f).fault = s.fault := rfl
@[simp] theorem goto_pins (f : FsmState) : (s.goto f).pins = s.pins := rfl
@[simp] theorem goto_pending (f : FsmState) : (s.goto f).pending = s.pending := rfl
@[simp] theorem goto_params (f : FsmState) : (s.goto f).params = s.params := rfl
@[simp] theorem goto_agenda (f : FsmState) : (s.goto f).agenda = s.agenda := rfl
@[simp] theorem goto_draws (f : FsmState) : (s.goto f).draws = s.draws := rfl

/-! ### countAttempt -/

@[simp] theorem countAttempt_fsm : s.countAttempt.fsm = s.fsm := rfl
@[simp] theorem countAttempt_curOp : s.countAttempt.curOp = s.curOp := rfl
@[simp] theorem countAttempt_attempts : s.countAttempt.attempts = nextCount s.params s.attempts := rfl
@[simp] theorem countAttempt_rxFrame : s.countAttempt.rxFrame = s.rxFrame := rfl
@[simp] theorem countAttempt_rxLen : s.countAttempt.rxLen = s.rxLen := rfl
@[simp] theorem countAttempt_frameValid : s.countAttempt.frameValid = s.frameValid := rfl
@[simp] theorem countAttempt_txFrame : s.countAttempt.txFrame = s.txFrame := rfl
@[simp] theorem countAttempt_txHolds : s.countAttempt.txHolds = s.txHolds := rfl
@[simp] theorem countAttempt_txValid : s.countAttempt.txValid = s.txValid := rfl
@[simp] theorem countAttempt_cksumOut : s.countAttempt.cksumOut = s.cksumOut := rfl
@[simp] theorem countAttempt_cksumHolds : s.countAttempt.cksumHolds = s.cksumHolds := rfl
@[simp] theorem countAttempt_cksumValid : s.countAttempt.cksumValid = s.cksumValid := rfl
@[simp] theorem countAttempt_pm25Raw : s.countAttempt.pm25Raw = s.pm25Raw := rfl
@[simp] theorem countAttempt_pm10Raw : s.countAttempt.pm10Raw = s.pm10Raw := rfl
@[simp] theorem countAttempt_readingHolds : s.countAttempt.readingHolds = s.readingHolds := rfl
@[simp] theorem countAttempt_readingValid : s.countAttempt.readingValid = s.readingValid := rfl
@[simp] theorem countAttempt_status : s.countAttempt.status = s.status := rfl
@[simp] theorem countAttempt_done : s.countAttempt.done = s.done := rfl
@[simp] theorem countAttempt_fault : s.countAttempt.fault = s.fault := rfl
@[simp] theorem countAttempt_pins : s.countAttempt.pins = s.pins := rfl
@[simp] theorem countAttempt_pending : s.countAttempt.pending = s.pending := rfl
@[simp] theorem countAttempt_params : s.countAttempt.params = s.params := rfl
@[simp] theorem countAttempt_agenda : s.countAttempt.agenda = s.agenda := rfl
@[simp] theorem countAttempt_draws : s.countAttempt.draws = s.draws := rfl

/-! ### storeHeader -/

@[simp] theorem storeHeader_fsm : s.storeHeader.fsm = s.fsm := rfl
@[simp] theorem storeHeader_curOp : s.storeHeader.curOp = s.curOp := rfl
@[simp] theorem storeHeader_attempts : s.storeHeader.attempts = s.attempts := rfl
@[simp] theorem storeHeader_rxFrame : s.storeHeader.rxFrame = s.rxFrame.set 0 hdr := rfl
@[simp] theorem storeHeader_rxLen : s.storeHeader.rxLen = 1 := rfl
@[simp] theorem storeHeader_frameValid : s.storeHeader.frameValid = s.frameValid := rfl
@[simp] theorem storeHeader_txFrame : s.storeHeader.txFrame = s.txFrame := rfl
@[simp] theorem storeHeader_txHolds : s.storeHeader.txHolds = s.txHolds := rfl
@[simp] theorem storeHeader_txValid : s.storeHeader.txValid = s.txValid := rfl
@[simp] theorem storeHeader_cksumOut : s.storeHeader.cksumOut = s.cksumOut := rfl
@[simp] theorem storeHeader_cksumHolds : s.storeHeader.cksumHolds = s.cksumHolds := rfl
@[simp] theorem storeHeader_cksumValid : s.storeHeader.cksumValid = s.cksumValid := rfl
@[simp] theorem storeHeader_pm25Raw : s.storeHeader.pm25Raw = s.pm25Raw := rfl
@[simp] theorem storeHeader_pm10Raw : s.storeHeader.pm10Raw = s.pm10Raw := rfl
@[simp] theorem storeHeader_readingHolds : s.storeHeader.readingHolds = s.readingHolds := rfl
@[simp] theorem storeHeader_readingValid : s.storeHeader.readingValid = s.readingValid := rfl
@[simp] theorem storeHeader_status : s.storeHeader.status = s.status := rfl
@[simp] theorem storeHeader_done : s.storeHeader.done = s.done := rfl
@[simp] theorem storeHeader_fault : s.storeHeader.fault = s.fault := rfl
@[simp] theorem storeHeader_pins : s.storeHeader.pins = s.pins := rfl
@[simp] theorem storeHeader_pending : s.storeHeader.pending = s.pending := rfl
@[simp] theorem storeHeader_params : s.storeHeader.params = s.params := rfl
@[simp] theorem storeHeader_agenda : s.storeHeader.agenda = s.agenda := rfl
@[simp] theorem storeHeader_draws : s.storeHeader.draws = s.draws := rfl

/-! ### storeBody -/

@[simp] theorem storeBody_fsm (bs : List Byte) : (s.storeBody bs).fsm = s.fsm := rfl
@[simp] theorem storeBody_curOp (bs : List Byte) : (s.storeBody bs).curOp = s.curOp := rfl
@[simp] theorem storeBody_attempts (bs : List Byte) : (s.storeBody bs).attempts = s.attempts := rfl
@[simp] theorem storeBody_rxFrame (bs : List Byte) : (s.storeBody bs).rxFrame = withBody s.rxFrame bs := rfl
@[simp] theorem storeBody_rxLen (bs : List Byte) : (s.storeBody bs).rxLen = BitVec.ofNat 4 (1 + bs.length) := rfl
@[simp] theorem storeBody_frameValid (bs : List Byte) : (s.storeBody bs).frameValid = s.frameValid := rfl
@[simp] theorem storeBody_txFrame (bs : List Byte) : (s.storeBody bs).txFrame = s.txFrame := rfl
@[simp] theorem storeBody_txHolds (bs : List Byte) : (s.storeBody bs).txHolds = s.txHolds := rfl
@[simp] theorem storeBody_txValid (bs : List Byte) : (s.storeBody bs).txValid = s.txValid := rfl
@[simp] theorem storeBody_cksumOut (bs : List Byte) : (s.storeBody bs).cksumOut = s.cksumOut := rfl
@[simp] theorem storeBody_cksumHolds (bs : List Byte) : (s.storeBody bs).cksumHolds = s.cksumHolds := rfl
@[simp] theorem storeBody_cksumValid (bs : List Byte) : (s.storeBody bs).cksumValid = s.cksumValid := rfl
@[simp] theorem storeBody_pm25Raw (bs : List Byte) : (s.storeBody bs).pm25Raw = s.pm25Raw := rfl
@[simp] theorem storeBody_pm10Raw (bs : List Byte) : (s.storeBody bs).pm10Raw = s.pm10Raw := rfl
@[simp] theorem storeBody_readingHolds (bs : List Byte) : (s.storeBody bs).readingHolds = s.readingHolds := rfl
@[simp] theorem storeBody_readingValid (bs : List Byte) : (s.storeBody bs).readingValid = s.readingValid := rfl
@[simp] theorem storeBody_status (bs : List Byte) : (s.storeBody bs).status = s.status := rfl
@[simp] theorem storeBody_done (bs : List Byte) : (s.storeBody bs).done = s.done := rfl
@[simp] theorem storeBody_fault (bs : List Byte) : (s.storeBody bs).fault = s.fault := rfl
@[simp] theorem storeBody_pins (bs : List Byte) : (s.storeBody bs).pins = s.pins := rfl
@[simp] theorem storeBody_pending (bs : List Byte) : (s.storeBody bs).pending = s.pending := rfl
@[simp] theorem storeBody_params (bs : List Byte) : (s.storeBody bs).params = s.params := rfl
@[simp] theorem storeBody_agenda (bs : List Byte) : (s.storeBody bs).agenda = s.agenda := rfl
@[simp] theorem storeBody_draws (bs : List Byte) : (s.storeBody bs).draws = s.draws := rfl

/-! ### acceptFrame -/

@[simp] theorem acceptFrame_fsm : s.acceptFrame.fsm = s.fsm := rfl
@[simp] theorem acceptFrame_curOp : s.acceptFrame.curOp = s.curOp := rfl
@[simp] theorem acceptFrame_attempts : s.acceptFrame.attempts = s.attempts := rfl
@[simp] theorem acceptFrame_rxFrame : s.acceptFrame.rxFrame = s.rxFrame := rfl
@[simp] theorem acceptFrame_rxLen : s.acceptFrame.rxLen = s.rxLen := rfl
@[simp] theorem acceptFrame_frameValid : s.acceptFrame.frameValid = true := rfl
@[simp] theorem acceptFrame_txFrame : s.acceptFrame.txFrame = s.txFrame := rfl
@[simp] theorem acceptFrame_txHolds : s.acceptFrame.txHolds = s.txHolds := rfl
@[simp] theorem acceptFrame_txValid : s.acceptFrame.txValid = s.txValid := rfl
@[simp] theorem acceptFrame_cksumOut : s.acceptFrame.cksumOut = s.cksumOut := rfl
@[simp] theorem acceptFrame_cksumHolds : s.acceptFrame.cksumHolds = s.cksumHolds := rfl
@[simp] theorem acceptFrame_cksumValid : s.acceptFrame.cksumValid = s.cksumValid := rfl
@[simp] theorem acceptFrame_pm25Raw : s.acceptFrame.pm25Raw = s.pm25Raw := rfl
@[simp] theorem acceptFrame_pm10Raw : s.acceptFrame.pm10Raw = s.pm10Raw := rfl
@[simp] theorem acceptFrame_readingHolds : s.acceptFrame.readingHolds = s.readingHolds := rfl
@[simp] theorem acceptFrame_readingValid : s.acceptFrame.readingValid = s.readingValid := rfl
@[simp] theorem acceptFrame_status : s.acceptFrame.status = s.status := rfl
@[simp] theorem acceptFrame_done : s.acceptFrame.done = s.done := rfl
@[simp] theorem acceptFrame_fault : s.acceptFrame.fault = s.fault := rfl
@[simp] theorem acceptFrame_pins : s.acceptFrame.pins = s.pins := rfl
@[simp] theorem acceptFrame_pending : s.acceptFrame.pending = s.pending := rfl
@[simp] theorem acceptFrame_params : s.acceptFrame.params = s.params := rfl
@[simp] theorem acceptFrame_agenda : s.acceptFrame.agenda = s.agenda := rfl
@[simp] theorem acceptFrame_draws : s.acceptFrame.draws = s.draws := rfl

/-! ### putTx -/

@[simp] theorem putTx_fsm (f : CmdFrame) : (s.putTx f).fsm = s.fsm := rfl
@[simp] theorem putTx_curOp (f : CmdFrame) : (s.putTx f).curOp = s.curOp := rfl
@[simp] theorem putTx_attempts (f : CmdFrame) : (s.putTx f).attempts = s.attempts := rfl
@[simp] theorem putTx_rxFrame (f : CmdFrame) : (s.putTx f).rxFrame = s.rxFrame := rfl
@[simp] theorem putTx_rxLen (f : CmdFrame) : (s.putTx f).rxLen = s.rxLen := rfl
@[simp] theorem putTx_frameValid (f : CmdFrame) : (s.putTx f).frameValid = s.frameValid := rfl
@[simp] theorem putTx_txFrame (f : CmdFrame) : (s.putTx f).txFrame = f := rfl
@[simp] theorem putTx_txHolds (f : CmdFrame) : (s.putTx f).txHolds = true := rfl
@[simp] theorem putTx_txValid (f : CmdFrame) : (s.putTx f).txValid = true := rfl
@[simp] theorem putTx_cksumOut (f : CmdFrame) : (s.putTx f).cksumOut = s.cksumOut := rfl
@[simp] theorem putTx_cksumHolds (f : CmdFrame) : (s.putTx f).cksumHolds = s.cksumHolds := rfl
@[simp] theorem putTx_cksumValid (f : CmdFrame) : (s.putTx f).cksumValid = s.cksumValid := rfl
@[simp] theorem putTx_pm25Raw (f : CmdFrame) : (s.putTx f).pm25Raw = s.pm25Raw := rfl
@[simp] theorem putTx_pm10Raw (f : CmdFrame) : (s.putTx f).pm10Raw = s.pm10Raw := rfl
@[simp] theorem putTx_readingHolds (f : CmdFrame) : (s.putTx f).readingHolds = s.readingHolds := rfl
@[simp] theorem putTx_readingValid (f : CmdFrame) : (s.putTx f).readingValid = s.readingValid := rfl
@[simp] theorem putTx_status (f : CmdFrame) : (s.putTx f).status = s.status := rfl
@[simp] theorem putTx_done (f : CmdFrame) : (s.putTx f).done = s.done := rfl
@[simp] theorem putTx_fault (f : CmdFrame) : (s.putTx f).fault = s.fault := rfl
@[simp] theorem putTx_pins (f : CmdFrame) : (s.putTx f).pins = s.pins := rfl
@[simp] theorem putTx_pending (f : CmdFrame) : (s.putTx f).pending = s.pending := rfl
@[simp] theorem putTx_params (f : CmdFrame) : (s.putTx f).params = s.params := rfl
@[simp] theorem putTx_agenda (f : CmdFrame) : (s.putTx f).agenda = s.agenda := rfl
@[simp] theorem putTx_draws (f : CmdFrame) : (s.putTx f).draws = s.draws := rfl

/-! ### failTx -/

@[simp] theorem failTx_fsm : s.failTx.fsm = s.fsm := rfl
@[simp] theorem failTx_curOp : s.failTx.curOp = s.curOp := rfl
@[simp] theorem failTx_attempts : s.failTx.attempts = s.attempts := rfl
@[simp] theorem failTx_rxFrame : s.failTx.rxFrame = s.rxFrame := rfl
@[simp] theorem failTx_rxLen : s.failTx.rxLen = s.rxLen := rfl
@[simp] theorem failTx_frameValid : s.failTx.frameValid = s.frameValid := rfl
@[simp] theorem failTx_txFrame : s.failTx.txFrame = s.txFrame := rfl
@[simp] theorem failTx_txHolds : s.failTx.txHolds = s.txHolds := rfl
@[simp] theorem failTx_txValid : s.failTx.txValid = false := rfl
@[simp] theorem failTx_cksumOut : s.failTx.cksumOut = s.cksumOut := rfl
@[simp] theorem failTx_cksumHolds : s.failTx.cksumHolds = s.cksumHolds := rfl
@[simp] theorem failTx_cksumValid : s.failTx.cksumValid = s.cksumValid := rfl
@[simp] theorem failTx_pm25Raw : s.failTx.pm25Raw = s.pm25Raw := rfl
@[simp] theorem failTx_pm10Raw : s.failTx.pm10Raw = s.pm10Raw := rfl
@[simp] theorem failTx_readingHolds : s.failTx.readingHolds = s.readingHolds := rfl
@[simp] theorem failTx_readingValid : s.failTx.readingValid = s.readingValid := rfl
@[simp] theorem failTx_status : s.failTx.status = s.status := rfl
@[simp] theorem failTx_done : s.failTx.done = s.done := rfl
@[simp] theorem failTx_fault : s.failTx.fault = s.fault := rfl
@[simp] theorem failTx_pins : s.failTx.pins = s.pins := rfl
@[simp] theorem failTx_pending : s.failTx.pending = s.pending := rfl
@[simp] theorem failTx_params : s.failTx.params = s.params := rfl
@[simp] theorem failTx_agenda : s.failTx.agenda = s.agenda := rfl
@[simp] theorem failTx_draws : s.failTx.draws = s.draws := rfl

/-! ### putCksum -/

@[simp] theorem putCksum_fsm (v : Byte) : (s.putCksum v).fsm = s.fsm := rfl
@[simp] theorem putCksum_curOp (v : Byte) : (s.putCksum v).curOp = s.curOp := rfl
@[simp] theorem putCksum_attempts (v : Byte) : (s.putCksum v).attempts = s.attempts := rfl
@[simp] theorem putCksum_rxFrame (v : Byte) : (s.putCksum v).rxFrame = s.rxFrame := rfl
@[simp] theorem putCksum_rxLen (v : Byte) : (s.putCksum v).rxLen = s.rxLen := rfl
@[simp] theorem putCksum_frameValid (v : Byte) : (s.putCksum v).frameValid = s.frameValid := rfl
@[simp] theorem putCksum_txFrame (v : Byte) : (s.putCksum v).txFrame = s.txFrame := rfl
@[simp] theorem putCksum_txHolds (v : Byte) : (s.putCksum v).txHolds = s.txHolds := rfl
@[simp] theorem putCksum_txValid (v : Byte) : (s.putCksum v).txValid = s.txValid := rfl
@[simp] theorem putCksum_cksumOut (v : Byte) : (s.putCksum v).cksumOut = v := rfl
@[simp] theorem putCksum_cksumHolds (v : Byte) : (s.putCksum v).cksumHolds = true := rfl
@[simp] theorem putCksum_cksumValid (v : Byte) : (s.putCksum v).cksumValid = true := rfl
@[simp] theorem putCksum_pm25Raw (v : Byte) : (s.putCksum v).pm25Raw = s.pm25Raw := rfl
@[simp] theorem putCksum_pm10Raw (v : Byte) : (s.putCksum v).pm10Raw = s.pm10Raw := rfl
@[simp] theorem putCksum_readingHolds (v : Byte) : (s.putCksum v).readingHolds = s.readingHolds := rfl
@[simp] theorem putCksum_readingValid (v : Byte) : (s.putCksum v).readingValid = s.readingValid := rfl
@[simp] theorem putCksum_status (v : Byte) : (s.putCksum v).status = s.status := rfl
@[simp] theorem putCksum_done (v : Byte) : (s.putCksum v).done = s.done := rfl
@[simp] theorem putCksum_fault (v : Byte) : (s.putCksum v).fault = s.fault := rfl
@[simp] theorem putCksum_pins (v : Byte) : (s.putCksum v).pins = s.pins := rfl
@[simp] theorem putCksum_pending (v : Byte) : (s.putCksum v).pending = s.pending := rfl
@[simp] theorem putCksum_params (v : Byte) : (s.putCksum v).params = s.params := rfl
@[simp] theorem putCksum_agenda (v : Byte) : (s.putCksum v).agenda = s.agenda := rfl
@[simp] theorem putCksum_draws (v : Byte) : (s.putCksum v).draws = s.draws := rfl

/-! ### failCksum -/

@[simp] theorem failCksum_fsm : s.failCksum.fsm = s.fsm := rfl
@[simp] theorem failCksum_curOp : s.failCksum.curOp = s.curOp := rfl
@[simp] theorem failCksum_attempts : s.failCksum.attempts = s.attempts := rfl
@[simp] theorem failCksum_rxFrame : s.failCksum.rxFrame = s.rxFrame := rfl
@[simp] theorem failCksum_rxLen : s.failCksum.rxLen = s.rxLen := rfl
@[simp] theorem failCksum_frameValid : s.failCksum.frameValid = s.frameValid := rfl
@[simp] theorem failCksum_txFrame : s.failCksum.txFrame = s.txFrame := rfl
@[simp] theorem failCksum_txHolds : s.failCksum.txHolds = s.txHolds := rfl
@[simp] theorem failCksum_txValid : s.failCksum.txValid = s.txValid := rfl
@[simp] theorem failCksum_cksumOut : s.failCksum.cksumOut = s.cksumOut := rfl
@[simp] theorem failCksum_cksumHolds : s.failCksum.cksumHolds = s.cksumHolds := rfl
@[simp] theorem failCksum_cksumValid : s.failCksum.cksumValid = false := rfl
@[simp] theorem failCksum_pm25Raw : s.failCksum.pm25Raw = s.pm25Raw := rfl
@[simp] theorem failCksum_pm10Raw : s.failCksum.pm10Raw = s.pm10Raw := rfl
@[simp] theorem failCksum_readingHolds : s.failCksum.readingHolds = s.readingHolds := rfl
@[simp] theorem failCksum_readingValid : s.failCksum.readingValid = s.readingValid := rfl
@[simp] theorem failCksum_status : s.failCksum.status = s.status := rfl
@[simp] theorem failCksum_done : s.failCksum.done = s.done := rfl
@[simp] theorem failCksum_fault : s.failCksum.fault = s.fault := rfl
@[simp] theorem failCksum_pins : s.failCksum.pins = s.pins := rfl
@[simp] theorem failCksum_pending : s.failCksum.pending = s.pending := rfl
@[simp] theorem failCksum_params : s.failCksum.params = s.params := rfl
@[simp] theorem failCksum_agenda : s.failCksum.agenda = s.agenda := rfl
@[simp] theorem failCksum_draws : s.failCksum.draws = s.draws := rfl

/-! ### putReading -/

@[simp] theorem putReading_fsm (a b : Half) : (s.putReading a b).fsm = s.fsm := rfl
@[simp] theorem putReading_curOp (a b : Half) : (s.putReading a b).curOp = s.curOp := rfl
@[simp] theorem putReading_attempts (a b : Half) : (s.putReading a b).attempts = s.attempts := rfl
@[simp] theorem putReading_rxFrame (a b : Half) : (s.putReading a b).rxFrame = s.rxFrame := rfl
@[simp] theorem putReading_rxLen (a b : Half) : (s.putReading a b).rxLen = s.rxLen := rfl
@[simp] theorem putReading_frameValid (a b : Half) : (s.putReading a b).frameValid = s.frameValid := rfl
@[simp] theorem putReading_txFrame (a b : Half) : (s.putReading a b).txFrame = s.txFrame := rfl
@[simp] theorem putReading_txHolds (a b : Half) : (s.putReading a b).txHolds = s.txHolds := rfl
@[simp] theorem putReading_txValid (a b : Half) : (s.putReading a b).txValid = s.txValid := rfl
@[simp] theorem putReading_cksumOut (a b : Half) : (s.putReading a b).cksumOut = s.cksumOut := rfl
@[simp] theorem putReading_cksumHolds (a b : Half) : (s.putReading a b).cksumHolds = s.cksumHolds := rfl
@[simp] theorem putReading_cksumValid (a b : Half) : (s.putReading a b).cksumValid = s.cksumValid := rfl
@[simp] theorem putReading_pm25Raw (a b : Half) : (s.putReading a b).pm25Raw = a := rfl
@[simp] theorem putReading_pm10Raw (a b : Half) : (s.putReading a b).pm10Raw = b := rfl
@[simp] theorem putReading_readingHolds (a b : Half) : (s.putReading a b).readingHolds = true := rfl
@[simp] theorem putReading_readingValid (a b : Half) : (s.putReading a b).readingValid = true := rfl
@[simp] theorem putReading_status (a b : Half) : (s.putReading a b).status = s.status := rfl
@[simp] theorem putReading_done (a b : Half) : (s.putReading a b).done = s.done := rfl
@[simp] theorem putReading_fault (a b : Half) : (s.putReading a b).fault = s.fault := rfl
@[simp] theorem putReading_pins (a b : Half) : (s.putReading a b).pins = s.pins := rfl
@[simp] theorem putReading_pending (a b : Half) : (s.putReading a b).pending = s.pending := rfl
@[simp] theorem putReading_params (a b : Half) : (s.putReading a b).params = s.params := rfl
@[simp] theorem putReading_agenda (a b : Half) : (s.putReading a b).agenda = s.agenda := rfl
@[simp] theorem putReading_draws (a b : Half) : (s.putReading a b).draws = s.draws := rfl

/-! ### failReading -/

@[simp] theorem failReading_fsm : s.failReading.fsm = s.fsm := rfl
@[simp] theorem failReading_curOp : s.failReading.curOp = s.curOp := rfl
@[simp] theorem failReading_attempts : s.failReading.attempts = s.attempts := rfl
@[simp] theorem failReading_rxFrame : s.failReading.rxFrame = s.rxFrame := rfl
@[simp] theorem failReading_rxLen : s.failReading.rxLen = s.rxLen := rfl
@[simp] theorem failReading_frameValid : s.failReading.frameValid = s.frameValid := rfl
@[simp] theorem failReading_txFrame : s.failReading.txFrame = s.txFrame := rfl
@[simp] theorem failReading_txHolds : s.failReading.txHolds = s.txHolds := rfl
@[simp] theorem failReading_txValid : s.failReading.txValid = s.txValid := rfl
@[simp] theorem failReading_cksumOut : s.failReading.cksumOut = s.cksumOut := rfl
@[simp] theorem failReading_cksumHolds : s.failReading.cksumHolds = s.cksumHolds := rfl
@[simp] theorem failReading_cksumValid : s.failReading.cksumValid = s.cksumValid := rfl
@[simp] theorem failReading_pm25Raw : s.failReading.pm25Raw = s.pm25Raw := rfl
@[simp] theorem failReading_pm10Raw : s.failReading.pm10Raw = s.pm10Raw := rfl
@[simp] theorem failReading_readingHolds : s.failReading.readingHolds = s.readingHolds := rfl
@[simp] theorem failReading_readingValid : s.failReading.readingValid = false := rfl
@[simp] theorem failReading_status : s.failReading.status = s.status := rfl
@[simp] theorem failReading_done : s.failReading.done = s.done := rfl
@[simp] theorem failReading_fault : s.failReading.fault = s.fault := rfl
@[simp] theorem failReading_pins : s.failReading.pins = s.pins := rfl
@[simp] theorem failReading_pending : s.failReading.pending = s.pending := rfl
@[simp] theorem failReading_params : s.failReading.params = s.params := rfl
@[simp] theorem failReading_agenda : s.failReading.agenda = s.agenda := rfl
@[simp] theorem failReading_draws : s.failReading.draws = s.draws := rfl

/-! ### resetBlock -/

@[simp] theorem resetBlock_fsm (lost : Nat) : (s.resetBlock lost).fsm = State.reset.fsm := rfl
@[simp] theorem resetBlock_curOp (lost : Nat) : (s.resetBlock lost).curOp = State.reset.curOp := rfl
@[simp] theorem resetBlock_attempts (lost : Nat) : (s.resetBlock lost).attempts = State.reset.attempts := rfl
@[simp] theorem resetBlock_rxFrame (lost : Nat) : (s.resetBlock lost).rxFrame = State.reset.rxFrame := rfl
@[simp] theorem resetBlock_rxLen (lost : Nat) : (s.resetBlock lost).rxLen = State.reset.rxLen := rfl
@[simp] theorem resetBlock_frameValid (lost : Nat) : (s.resetBlock lost).frameValid = State.reset.frameValid := rfl
@[simp] theorem resetBlock_txFrame (lost : Nat) : (s.resetBlock lost).txFrame = State.reset.txFrame := rfl
@[simp] theorem resetBlock_txHolds (lost : Nat) : (s.resetBlock lost).txHolds = State.reset.txHolds := rfl
@[simp] theorem resetBlock_txValid (lost : Nat) : (s.resetBlock lost).txValid = State.reset.txValid := rfl
@[simp] theorem resetBlock_cksumOut (lost : Nat) : (s.resetBlock lost).cksumOut = State.reset.cksumOut := rfl
@[simp] theorem resetBlock_cksumHolds (lost : Nat) : (s.resetBlock lost).cksumHolds = State.reset.cksumHolds := rfl
@[simp] theorem resetBlock_cksumValid (lost : Nat) : (s.resetBlock lost).cksumValid = State.reset.cksumValid := rfl
@[simp] theorem resetBlock_pm25Raw (lost : Nat) : (s.resetBlock lost).pm25Raw = State.reset.pm25Raw := rfl
@[simp] theorem resetBlock_pm10Raw (lost : Nat) : (s.resetBlock lost).pm10Raw = State.reset.pm10Raw := rfl
@[simp] theorem resetBlock_readingHolds (lost : Nat) : (s.resetBlock lost).readingHolds = State.reset.readingHolds := rfl
@[simp] theorem resetBlock_readingValid (lost : Nat) : (s.resetBlock lost).readingValid = State.reset.readingValid := rfl
@[simp] theorem resetBlock_status (lost : Nat) : (s.resetBlock lost).status = State.reset.status := rfl
@[simp] theorem resetBlock_done (lost : Nat) : (s.resetBlock lost).done = State.reset.done := rfl
@[simp] theorem resetBlock_fault (lost : Nat) : (s.resetBlock lost).fault = State.reset.fault := rfl
@[simp] theorem resetBlock_pins (lost : Nat) : (s.resetBlock lost).pins = s.pins := rfl
@[simp] theorem resetBlock_pending (lost : Nat) : (s.resetBlock lost).pending = s.pending.drop (min lost s.outstanding) := rfl
@[simp] theorem resetBlock_params (lost : Nat) : (s.resetBlock lost).params = s.params := rfl
@[simp] theorem resetBlock_agenda (lost : Nat) : (s.resetBlock lost).agenda = s.agenda := rfl
@[simp] theorem resetBlock_draws (lost : Nat) : (s.resetBlock lost).draws = s.draws := rfl

/-! ### deliver: it changes `pending` alone -/

@[simp] theorem deliver_fsm (n : Nat) (a : Answer) : (s.deliver n a).2.fsm = s.fsm := by cases a <;> rfl
@[simp] theorem deliver_curOp (n : Nat) (a : Answer) : (s.deliver n a).2.curOp = s.curOp := by cases a <;> rfl
@[simp] theorem deliver_attempts (n : Nat) (a : Answer) : (s.deliver n a).2.attempts = s.attempts := by cases a <;> rfl
@[simp] theorem deliver_rxFrame (n : Nat) (a : Answer) : (s.deliver n a).2.rxFrame = s.rxFrame := by cases a <;> rfl
@[simp] theorem deliver_rxLen (n : Nat) (a : Answer) : (s.deliver n a).2.rxLen = s.rxLen := by cases a <;> rfl
@[simp] theorem deliver_frameValid (n : Nat) (a : Answer) : (s.deliver n a).2.frameValid = s.frameValid := by cases a <;> rfl
@[simp] theorem deliver_txFrame (n : Nat) (a : Answer) : (s.deliver n a).2.txFrame = s.txFrame := by cases a <;> rfl
@[simp] theorem deliver_txHolds (n : Nat) (a : Answer) : (s.deliver n a).2.txHolds = s.txHolds := by cases a <;> rfl
@[simp] theorem deliver_txValid (n : Nat) (a : Answer) : (s.deliver n a).2.txValid = s.txValid := by cases a <;> rfl
@[simp] theorem deliver_cksumOut (n : Nat) (a : Answer) : (s.deliver n a).2.cksumOut = s.cksumOut := by cases a <;> rfl
@[simp] theorem deliver_cksumHolds (n : Nat) (a : Answer) : (s.deliver n a).2.cksumHolds = s.cksumHolds := by cases a <;> rfl
@[simp] theorem deliver_cksumValid (n : Nat) (a : Answer) : (s.deliver n a).2.cksumValid = s.cksumValid := by cases a <;> rfl
@[simp] theorem deliver_pm25Raw (n : Nat) (a : Answer) : (s.deliver n a).2.pm25Raw = s.pm25Raw := by cases a <;> rfl
@[simp] theorem deliver_pm10Raw (n : Nat) (a : Answer) : (s.deliver n a).2.pm10Raw = s.pm10Raw := by cases a <;> rfl
@[simp] theorem deliver_readingHolds (n : Nat) (a : Answer) : (s.deliver n a).2.readingHolds = s.readingHolds := by cases a <;> rfl
@[simp] theorem deliver_readingValid (n : Nat) (a : Answer) : (s.deliver n a).2.readingValid = s.readingValid := by cases a <;> rfl
@[simp] theorem deliver_status (n : Nat) (a : Answer) : (s.deliver n a).2.status = s.status := by cases a <;> rfl
@[simp] theorem deliver_done (n : Nat) (a : Answer) : (s.deliver n a).2.done = s.done := by cases a <;> rfl
@[simp] theorem deliver_fault (n : Nat) (a : Answer) : (s.deliver n a).2.fault = s.fault := by cases a <;> rfl
@[simp] theorem deliver_pins (n : Nat) (a : Answer) : (s.deliver n a).2.pins = s.pins := by cases a <;> rfl
@[simp] theorem deliver_params (n : Nat) (a : Answer) : (s.deliver n a).2.params = s.params := by cases a <;> rfl
@[simp] theorem deliver_agenda (n : Nat) (a : Answer) : (s.deliver n a).2.agenda = s.agenda := by cases a <;> rfl
@[simp] theorem deliver_draws (n : Nat) (a : Answer) : (s.deliver n a).2.draws = s.draws := by cases a <;> rfl

end Sys2Proof.Machine.State
end

