-- ==== Sys2Proof/Laws/Ops.lean ====
section
/-! SUPPORT. For each shared operation, one lemma that says all it can do; the inversion of a move and of a step. -/

namespace Sys2Proof.Machine

variable {s t : State}

/-! ## The outcome type -/

@[simp] theorem next_eq_iff {a b : State} :
    ((.next a : Host.Outcome State Fault Refusal) = .next b) ↔ a = b := ⟨fun h => by injection h, fun h => by rw [h]⟩

@[simp] theorem fault_ne_next {f : Fault} {b : State} :
    ((.fault f : Host.Outcome State Fault Refusal) = .next b) ↔ False := ⟨nofun, nofun⟩

/-! ## The stream -/

/-- A delivery takes some `k ≤ n` bytes from the head of `pending` and brings those bytes, or ERROR. -/
theorem deliver_cases (n : Nat) (a : Answer) (s : State) : ∃ k, k ≤ n ∧
    (s.deliver n a).2 = { s with pending := s.pending.drop k } ∧
    ((s.deliver n a).1 = .error ∨ (s.deliver n a).1 = .bytes (s.pending.take k)) := by
  cases a with
  | bytes len => exact ⟨min len n, Nat.min_le_right .., rfl, .inr rfl⟩
  | error lost => exact ⟨min lost n, Nat.min_le_right .., rfl, .inl rfl⟩

@[simp] theorem deliver_bytes (n len : Nat) (s : State) : s.deliver n (.bytes len) =
    (.bytes (s.pending.take (min len n)), { s with pending := s.pending.drop (min len n) }) := rfl

@[simp] theorem deliver_error (n lost : Nat) (s : State) : s.deliver n (.error lost) =
    (.error, { s with pending := s.pending.drop (min lost n) }) := rfl

/-! ## The requests -/

/-- The status of a command request, and when. -/
theorem commandStatus_cases (p : Params) (cmd plen : Byte) :
    (commandStatus p cmd plen = .ok ∧ plen.toNat ≤ 12 ∧ cmdOK p cmd = true) ∨
    (commandStatus p cmd plen = .invalidPayload ∧ 12 < plen.toNat) ∨
    (commandStatus p cmd plen = .invalidCommand ∧ plen.toNat ≤ 12 ∧ cmdOK p cmd = false) := by
  unfold commandStatus payloadMax
  by_cases h : plen.toNat > 12
  · simp [h]
  · cases hc : cmdOK p cmd <;> simp [h] <;> omega

/-- The status of a DECODE, and when. -/
theorem decodeStatus_cases (plen : Byte) (f : Lanes) :
    (decodeStatus plen f = .ok ∧ 10 ≤ plen.toNat ∧ f[1] = queryAck) ∨
    (decodeStatus plen f = .shortFrame ∧ plen.toNat < 10) ∨
    (decodeStatus plen f = .notQueryAck ∧ 10 ≤ plen.toNat ∧ f[1] ≠ queryAck) := by
  unfold decodeStatus respFrameLen
  by_cases h : plen.toNat < 10
  · simp [h]
  · by_cases hq : f[1] = queryAck <;> simp [h, hq] <;> omega

/-- All a request's accept step can do. -/
theorem exec_cases (i : Instr) (s : State) :
    (∃ c n l, i = .encode c n l ∧ commandStatus s.params c n = .ok ∧
      exec i s = .next (((s.beginOp 0x1).putTx (buildFrame c (opnd n l))).complete .ok)) ∨
    (∃ c n l, i = .encode c n l ∧ commandStatus s.params c n ≠ .ok ∧
      exec i s = .next ((s.beginOp 0x1).failTx.complete (commandStatus s.params c n))) ∨
    (∃ c n l, i = .cksumC c n l ∧ commandStatus s.params c n = .ok ∧
      exec i s = .next (((s.beginOp 0x2).putCksum (cmdChecksum c (opnd n l))).complete .ok)) ∨
    (∃ c n l, i = .cksumC c n l ∧ commandStatus s.params c n ≠ .ok ∧
      exec i s = .next ((s.beginOp 0x2).failCksum.complete (commandStatus s.params c n))) ∨
    (∃ c n l, i = .cksumR c n l ∧
      exec i s = .next (((s.beginOp 0x3).putCksum (respChecksumOpnd (opnd n l))).complete .ok)) ∨
    (∃ c n l, i = .findstart c n l ∧ exec i s = .next (s.beginOp 0x4).scanStart) ∨
    (∃ c n l, i = .readframe c n l ∧ exec i s = .next (s.beginOp 0x5).scanStart) ∨
    (∃ c n l, i = .decode c n l ∧ decodeStatus n (opnd n l) = .ok ∧
      exec i s = .next (((s.beginOp 0x6).putReading (pm25Of (opnd n l)) (pm10Of (opnd n l))).complete .ok)) ∨
    (∃ c n l, i = .decode c n l ∧ decodeStatus n (opnd n l) ≠ .ok ∧
      exec i s = .next ((s.beginOp 0x6).failReading.complete (decodeStatus n (opnd n l)))) := by
  cases i with
  | encode c n l =>
    obtain ⟨h, -⟩ | ⟨h, -⟩ | ⟨h, -⟩ := commandStatus_cases s.params c n <;> simp [exec, execEncode, h]
  | cksumC c n l =>
    obtain ⟨h, -⟩ | ⟨h, -⟩ | ⟨h, -⟩ := commandStatus_cases s.params c n <;> simp [exec, execCksumC, h]
  | cksumR c n l => simp [exec, execCksumR]
  | findstart c n l => simp [exec, execFindstart]
  | readframe c n l => simp [exec, execReadframe]
  | decode c n l =>
    obtain ⟨h, -⟩ | ⟨h, -⟩ | ⟨h, -⟩ := decodeStatus_cases n (opnd n l) <;> simp [exec, execDecode, h]

/-- Every request's accept step answers a next state, and leaves lines, stream, parameters and scheduling data. -/
theorem exec_next (i : Instr) (s : State) : ∃ t, exec i s = .next t ∧
    t.pins = s.pins ∧ t.pending = s.pending ∧ t.params = s.params ∧ t.agenda = s.agenda ∧ t.draws = s.draws := by
  obtain ⟨c, n, l, -, -, h⟩ | ⟨c, n, l, -, -, h⟩ | ⟨c, n, l, -, -, h⟩ | ⟨c, n, l, -, -, h⟩ | ⟨c, n, l, -, h⟩ |
    ⟨c, n, l, -, h⟩ | ⟨c, n, l, -, h⟩ | ⟨c, n, l, -, -, h⟩ | ⟨c, n, l, -, -, h⟩ := exec_cases i s <;>
    exact ⟨_, h, rfl, rfl, rfl, rfl, rfl⟩

/-! ## The attempt counter -/

/-- The counter holds every count up to SCAN_BUDGET. -/
theorem scanBudget_lt_two_pow (p : Params) : p.scanBudget < 2 ^ attemptsWidth p := by
  have h1 : p.scanBudget + 1 ≤ 2 ^ Nat.clog 2 (p.scanBudget + 1) := Nat.le_pow_clog (by omega) _
  have h2 : 2 ^ Nat.clog 2 (p.scanBudget + 1) ≤ 2 ^ attemptsWidth p :=
    Nat.pow_le_pow_right (by omega) (Nat.le_max_right ..)
  omega

/-- Within the budget the counter does not wrap. -/
theorem nextCount_of_lt {p : Params} {n : Nat} (h : n < p.scanBudget) : nextCount p n = n + 1 :=
  Nat.mod_eq_of_lt (by have := scanBudget_lt_two_pow p; omega)

/-- The counter always fits its register. -/
theorem nextCount_lt (p : Params) (n : Nat) : nextCount p n < 2 ^ attemptsWidth p :=
  Nat.mod_lt _ (Nat.two_pow_pos _)

/-! ## The scan and the body -/

/-- Between two attempts: cancelled, or the next attempt. -/
theorem nextAttempt_cases (s : State) :
    (s.pins.cancel = true ∧ s.nextAttempt = s.complete .cancelled) ∨
    (s.pins.cancel = false ∧ s.nextAttempt = s.goto .scanReq) := by
  unfold State.nextAttempt
  cases s.pins.cancel <;> simp

/-- All the read-answer step in SCAN_REQ can do. -/
theorem scanAnswer_cases (ans : Received) (s : State) :
    (ans = .error ∧ s.scanAnswer ans = s.complete .transportError) ∨
    (∃ rest, ans = .bytes (hdr :: rest) ∧ s.curOp = 0x4 ∧
      s.scanAnswer ans = s.countAttempt.storeHeader.complete .ok) ∨
    (∃ rest, ans = .bytes (hdr :: rest) ∧ s.curOp ≠ 0x4 ∧
      s.scanAnswer ans = s.countAttempt.storeHeader.goto .bodyReq) ∨
    (∃ bs, ans = .bytes bs ∧ bs.head? ≠ some hdr ∧ nextCount s.params s.attempts = s.params.scanBudget ∧
      s.scanAnswer ans = s.countAttempt.complete .noSync) ∨
    (ans = .bytes [] ∧ nextCount s.params s.attempts ≠ s.params.scanBudget ∧ s.scanAnswer ans = s.countAttempt.goto .backoff) ∨
    (∃ b rest, ans = .bytes (b :: rest) ∧ b ≠ hdr ∧ nextCount s.params s.attempts ≠ s.params.scanBudget ∧
      s.scanAnswer ans = s.countAttempt.nextAttempt) := by
  cases ans with
  | error => exact .inl ⟨rfl, rfl⟩
  | bytes bs =>
    right
    cases bs with
    | nil => by_cases hb : nextCount s.params s.attempts = s.params.scanBudget <;> simp [State.scanAnswer, hb]
    | cons b rest =>
      by_cases hh : b = hdr
      · subst hh; by_cases hc : s.curOp = 0x4#4 <;> simp [State.scanAnswer, State.scanMatch, hc]
      · by_cases hb : nextCount s.params s.attempts = s.params.scanBudget <;> simp [State.scanAnswer, hb, hh]

/-- All the read-answer step in BODY_REQ can do. -/
theorem bodyAnswer_cases (ans : Received) (s : State) :
    (ans = .error ∧ s.bodyAnswer ans = s.complete .transportError) ∨
    (∃ bs, ans = .bytes bs ∧ bs.length < 9 ∧ s.bodyAnswer ans = (s.storeBody bs).complete .shortRead) ∨
    (∃ bs, ans = .bytes bs ∧ 9 ≤ bs.length ∧ (s.storeBody bs).checksumBad = true ∧
      s.bodyAnswer ans = (s.storeBody bs).complete .checksumMismatch) ∨
    (∃ bs, ans = .bytes bs ∧ 9 ≤ bs.length ∧ (s.storeBody bs).checksumBad = false ∧
      s.bodyAnswer ans = (s.storeBody bs).acceptFrame.complete .ok) := by
  cases ans with
  | error => exact .inl ⟨rfl, rfl⟩
  | bytes bs =>
    right
    by_cases h : bs.length < 9
    · exact .inl ⟨bs, rfl, h, by simp [State.bodyAnswer, bodyLen, h]⟩
    · right
      cases hc : (s.storeBody bs).checksumBad
      · exact .inr ⟨bs, rfl, by omega, hc, by simp [State.bodyAnswer, bodyLen, h, hc]⟩
      · exact .inl ⟨bs, rfl, by omega, hc, by simp [State.bodyAnswer, bodyLen, h, hc]⟩

/-- RX_FRAME after the body: element 0 stays, the answer follows it, the rest stays. -/
theorem withBody_getElem (f : RespFrame) (bs : List Byte) (i : Nat) (h : i < 10) :
    (withBody f bs)[i] = if i = 0 then f[i] else bs.getD (i - 1) f[i] := by
  simp [withBody]

/-! ## What the scan's and the body's steps leave -/

@[simp] theorem nextAttempt_curOp (s : State) : s.nextAttempt.curOp = s.curOp := by
  obtain ⟨-, h⟩ | ⟨-, h⟩ := nextAttempt_cases s <;> rw [h] <;> simp

@[simp] theorem nextAttempt_attempts (s : State) : s.nextAttempt.attempts = s.attempts := by
  obtain ⟨-, h⟩ | ⟨-, h⟩ := nextAttempt_cases s <;> rw [h] <;> simp

@[simp] theorem nextAttempt_rxFrame (s : State) : s.nextAttempt.rxFrame = s.rxFrame := by
  obtain ⟨-, h⟩ | ⟨-, h⟩ := nextAttempt_cases s <;> rw [h] <;> simp

@[simp] theorem nextAttempt_rxLen (s : State) : s.nextAttempt.rxLen = s.rxLen := by
  obtain ⟨-, h⟩ | ⟨-, h⟩ := nextAttempt_cases s <;> rw [h] <;> simp

@[simp] theorem nextAttempt_frameValid (s : State) : s.nextAttempt.frameValid = s.frameValid := by
  obtain ⟨-, h⟩ | ⟨-, h⟩ := nextAttempt_cases s <;> rw [h] <;> simp

@[simp] theorem nextAttempt_txFrame (s : State) : s.nextAttempt.txFrame = s.txFrame := by
  obtain ⟨-, h⟩ | ⟨-, h⟩ := nextAttempt_cases s <;> rw [h] <;> simp

@[simp] theorem nextAttempt_txHolds (s : State) : s.nextAttempt.txHolds = s.txHolds := by
  obtain ⟨-, h⟩ | ⟨-, h⟩ := nextAttempt_cases s <;> rw [h] <;> simp

@[simp] theorem nextAttempt_txValid (s : State) : s.nextAttempt.txValid = s.txValid := by
  obtain ⟨-, h⟩ | ⟨-, h⟩ := nextAttempt_cases s <;> rw [h] <;> simp

@[simp] theorem nextAttempt_cksumOut (s : State) : s.nextAttempt.cksumOut = s.cksumOut := by
  obtain ⟨-, h⟩ | ⟨-, h⟩ := nextAttempt_cases s <;> rw [h] <;> simp

@[simp] theorem nextAttempt_cksumHolds (s : State) : s.nextAttempt.cksumHolds = s.cksumHolds := by
  obtain ⟨-, h⟩ | ⟨-, h⟩ := nextAttempt_cases s <;> rw [h] <;> simp

@[simp] theorem nextAttempt_cksumValid (s : State) : s.nextAttempt.cksumValid = s.cksumValid := by
  obtain ⟨-, h⟩ | ⟨-, h⟩ := nextAttempt_cases s <;> rw [h] <;> simp

@[simp] theorem nextAttempt_pm25Raw (s : State) : s.nextAttempt.pm25Raw = s.pm25Raw := by
  obtain ⟨-, h⟩ | ⟨-, h⟩ := nextAttempt_cases s <;> rw [h] <;> simp

@[simp] theorem nextAttempt_pm10Raw (s : State) : s.nextAttempt.pm10Raw = s.pm10Raw := by
  obtain ⟨-, h⟩ | ⟨-, h⟩ := nextAttempt_cases s <;> rw [h] <;> simp

@[simp] theorem nextAttempt_readingHolds (s : State) : s.nextAttempt.readingHolds = s.readingHolds := by
  obtain ⟨-, h⟩ | ⟨-, h⟩ := nextAttempt_cases s <;> rw [h] <;> simp

@[simp] theorem nextAttempt_readingValid (s : State) : s.nextAttempt.readingValid = s.readingValid := by
  obtain ⟨-, h⟩ | ⟨-, h⟩ := nextAttempt_cases s <;> rw [h] <;> simp

@[simp] theorem nextAttempt_pins (s : State) : s.nextAttempt.pins = s.pins := by
  obtain ⟨-, h⟩ | ⟨-, h⟩ := nextAttempt_cases s <;> rw [h] <;> simp

@[simp] theorem nextAttempt_pending (s : State) : s.nextAttempt.pending = s.pending := by
  obtain ⟨-, h⟩ | ⟨-, h⟩ := nextAttempt_cases s <;> rw [h] <;> simp

@[simp] theorem nextAttempt_params (s : State) : s.nextAttempt.params = s.params := by
  obtain ⟨-, h⟩ | ⟨-, h⟩ := nextAttempt_cases s <;> rw [h] <;> simp

@[simp] theorem nextAttempt_agenda (s : State) : s.nextAttempt.agenda = s.agenda := by
  obtain ⟨-, h⟩ | ⟨-, h⟩ := nextAttempt_cases s <;> rw [h] <;> simp

@[simp] theorem nextAttempt_draws (s : State) : s.nextAttempt.draws = s.draws := by
  obtain ⟨-, h⟩ | ⟨-, h⟩ := nextAttempt_cases s <;> rw [h] <;> simp

@[simp] theorem scanAnswer_curOp (ans : Received) (s : State) : (s.scanAnswer ans).curOp = s.curOp := by
  obtain ⟨-, h⟩ | ⟨_, -, -, h⟩ | ⟨_, -, -, h⟩ | ⟨_, -, -, -, h⟩ | ⟨-, -, h⟩ | ⟨_, _, -, -, -, h⟩ := scanAnswer_cases ans s <;>
    simp [h]

@[simp] theorem scanAnswer_frameValid (ans : Received) (s : State) : (s.scanAnswer ans).frameValid = s.frameValid := by
  obtain ⟨-, h⟩ | ⟨_, -, -, h⟩ | ⟨_, -, -, h⟩ | ⟨_, -, -, -, h⟩ | ⟨-, -, h⟩ | ⟨_, _, -, -, -, h⟩ := scanAnswer_cases ans s <;>
    simp [h]

@[simp] theorem scanAnswer_txFrame (ans : Received) (s : State) : (s.scanAnswer ans).txFrame = s.txFrame := by
  obtain ⟨-, h⟩ | ⟨_, -, -, h⟩ | ⟨_, -, -, h⟩ | ⟨_, -, -, -, h⟩ | ⟨-, -, h⟩ | ⟨_, _, -, -, -, h⟩ := scanAnswer_cases ans s <;>
    simp [h]

@[simp] theorem scanAnswer_txHolds (ans : Received) (s : State) : (s.scanAnswer ans).txHolds = s.txHolds := by
  obtain ⟨-, h⟩ | ⟨_, -, -, h⟩ | ⟨_, -, -, h⟩ | ⟨_, -, -, -, h⟩ | ⟨-, -, h⟩ | ⟨_, _, -, -, -, h⟩ := scanAnswer_cases ans s <;>
    simp [h]

@[simp] theorem scanAnswer_txValid (ans : Received) (s : State) : (s.scanAnswer ans).txValid = s.txValid := by
  obtain ⟨-, h⟩ | ⟨_, -, -, h⟩ | ⟨_, -, -, h⟩ | ⟨_, -, -, -, h⟩ | ⟨-, -, h⟩ | ⟨_, _, -, -, -, h⟩ := scanAnswer_cases ans s <;>
    simp [h]

@[simp] theorem scanAnswer_cksumOut (ans : Received) (s : State) : (s.scanAnswer ans).cksumOut = s.cksumOut := by
  obtain ⟨-, h⟩ | ⟨_, -, -, h⟩ | ⟨_, -, -, h⟩ | ⟨_, -, -, -, h⟩ | ⟨-, -, h⟩ | ⟨_, _, -, -, -, h⟩ := scanAnswer_cases ans s <;>
    simp [h]

@[simp] theorem scanAnswer_cksumHolds (ans : Received) (s : State) : (s.scanAnswer ans).cksumHolds = s.cksumHolds := by
  obtain ⟨-, h⟩ | ⟨_, -, -, h⟩ | ⟨_, -, -, h⟩ | ⟨_, -, -, -, h⟩ | ⟨-, -, h⟩ | ⟨_, _, -, -, -, h⟩ := scanAnswer_cases ans s <;>
    simp [h]

@[simp] theorem scanAnswer_cksumValid (ans : Received) (s : State) : (s.scanAnswer ans).cksumValid = s.cksumValid := by
  obtain ⟨-, h⟩ | ⟨_, -, -, h⟩ | ⟨_, -, -, h⟩ | ⟨_, -, -, -, h⟩ | ⟨-, -, h⟩ | ⟨_, _, -, -, -, h⟩ := scanAnswer_cases ans s <;>
    simp [h]

@[simp] theorem scanAnswer_pm25Raw (ans : Received) (s : State) : (s.scanAnswer ans).pm25Raw = s.pm25Raw := by
  obtain ⟨-, h⟩ | ⟨_, -, -, h⟩ | ⟨_, -, -, h⟩ | ⟨_, -, -, -, h⟩ | ⟨-, -, h⟩ | ⟨_, _, -, -, -, h⟩ := scanAnswer_cases ans s <;>
    simp [h]

@[simp] theorem scanAnswer_pm10Raw (ans : Received) (s : State) : (s.scanAnswer ans).pm10Raw = s.pm10Raw := by
  obtain ⟨-, h⟩ | ⟨_, -, -, h⟩ | ⟨_, -, -, h⟩ | ⟨_, -, -, -, h⟩ | ⟨-, -, h⟩ | ⟨_, _, -, -, -, h⟩ := scanAnswer_cases ans s <;>
    simp [h]

@[simp] theorem scanAnswer_readingHolds (ans : Received) (s : State) : (s.scanAnswer ans).readingHolds = s.readingHolds := by
  obtain ⟨-, h⟩ | ⟨_, -, -, h⟩ | ⟨_, -, -, h⟩ | ⟨_, -, -, -, h⟩ | ⟨-, -, h⟩ | ⟨_, _, -, -, -, h⟩ := scanAnswer_cases ans s <;>
    simp [h]

@[simp] theorem scanAnswer_readingValid (ans : Received) (s : State) : (s.scanAnswer ans).readingValid = s.readingValid := by
  obtain ⟨-, h⟩ | ⟨_, -, -, h⟩ | ⟨_, -, -, h⟩ | ⟨_, -, -, -, h⟩ | ⟨-, -, h⟩ | ⟨_, _, -, -, -, h⟩ := scanAnswer_cases ans s <;>
    simp [h]

@[simp] theorem scanAnswer_pins (ans : Received) (s : State) : (s.scanAnswer ans).pins = s.pins := by
  obtain ⟨-, h⟩ | ⟨_, -, -, h⟩ | ⟨_, -, -, h⟩ | ⟨_, -, -, -, h⟩ | ⟨-, -, h⟩ | ⟨_, _, -, -, -, h⟩ := scanAnswer_cases ans s <;>
    simp [h]

@[simp] theorem scanAnswer_pending (ans : Received) (s : State) : (s.scanAnswer ans).pending = s.pending := by
  obtain ⟨-, h⟩ | ⟨_, -, -, h⟩ | ⟨_, -, -, h⟩ | ⟨_, -, -, -, h⟩ | ⟨-, -, h⟩ | ⟨_, _, -, -, -, h⟩ := scanAnswer_cases ans s <;>
    simp [h]

@[simp] theorem scanAnswer_params (ans : Received) (s : State) : (s.scanAnswer ans).params = s.params := by
  obtain ⟨-, h⟩ | ⟨_, -, -, h⟩ | ⟨_, -, -, h⟩ | ⟨_, -, -, -, h⟩ | ⟨-, -, h⟩ | ⟨_, _, -, -, -, h⟩ := scanAnswer_cases ans s <;>
    simp [h]

@[simp] theorem scanAnswer_agenda (ans : Received) (s : State) : (s.scanAnswer ans).agenda = s.agenda := by
  obtain ⟨-, h⟩ | ⟨_, -, -, h⟩ | ⟨_, -, -, h⟩ | ⟨_, -, -, -, h⟩ | ⟨-, -, h⟩ | ⟨_, _, -, -, -, h⟩ := scanAnswer_cases ans s <;>
    simp [h]

@[simp] theorem scanAnswer_draws (ans : Received) (s : State) : (s.scanAnswer ans).draws = s.draws := by
  obtain ⟨-, h⟩ | ⟨_, -, -, h⟩ | ⟨_, -, -, h⟩ | ⟨_, -, -, -, h⟩ | ⟨-, -, h⟩ | ⟨_, _, -, -, -, h⟩ := scanAnswer_cases ans s <;>
    simp [h]

@[simp] theorem bodyAnswer_curOp (ans : Received) (s : State) : (s.bodyAnswer ans).curOp = s.curOp := by
  obtain ⟨-, h⟩ | ⟨_, -, -, h⟩ | ⟨_, -, -, -, h⟩ | ⟨_, -, -, -, h⟩ := bodyAnswer_cases ans s <;> simp [h]

@[simp] theorem bodyAnswer_attempts (ans : Received) (s : State) : (s.bodyAnswer ans).attempts = s.attempts := by
  obtain ⟨-, h⟩ | ⟨_, -, -, h⟩ | ⟨_, -, -, -, h⟩ | ⟨_, -, -, -, h⟩ := bodyAnswer_cases ans s <;> simp [h]

@[simp] theorem bodyAnswer_txFrame (ans : Received) (s : State) : (s.bodyAnswer ans).txFrame = s.txFrame := by
  obtain ⟨-, h⟩ | ⟨_, -, -, h⟩ | ⟨_, -, -, -, h⟩ | ⟨_, -, -, -, h⟩ := bodyAnswer_cases ans s <;> simp [h]

@[simp] theorem bodyAnswer_txHolds (ans : Received) (s : State) : (s.bodyAnswer ans).txHolds = s.txHolds := by
  obtain ⟨-, h⟩ | ⟨_, -, -, h⟩ | ⟨_, -, -, -, h⟩ | ⟨_, -, -, -, h⟩ := bodyAnswer_cases ans s <;> simp [h]

@[simp] theorem bodyAnswer_txValid (ans : Received) (s : State) : (s.bodyAnswer ans).txValid = s.txValid := by
  obtain ⟨-, h⟩ | ⟨_, -, -, h⟩ | ⟨_, -, -, -, h⟩ | ⟨_, -, -, -, h⟩ := bodyAnswer_cases ans s <;> simp [h]

@[simp] theorem bodyAnswer_cksumOut (ans : Received) (s : State) : (s.bodyAnswer ans).cksumOut = s.cksumOut := by
  obtain ⟨-, h⟩ | ⟨_, -, -, h⟩ | ⟨_, -, -, -, h⟩ | ⟨_, -, -, -, h⟩ := bodyAnswer_cases ans s <;> simp [h]

@[simp] theorem bodyAnswer_cksumHolds (ans : Received) (s : State) : (s.bodyAnswer ans).cksumHolds = s.cksumHolds := by
  obtain ⟨-, h⟩ | ⟨_, -, -, h⟩ | ⟨_, -, -, -, h⟩ | ⟨_, -, -, -, h⟩ := bodyAnswer_cases ans s <;> simp [h]

@[simp] theorem bodyAnswer_cksumValid (ans : Received) (s : State) : (s.bodyAnswer ans).cksumValid = s.cksumValid := by
  obtain ⟨-, h⟩ | ⟨_, -, -, h⟩ | ⟨_, -, -, -, h⟩ | ⟨_, -, -, -, h⟩ := bodyAnswer_cases ans s <;> simp [h]

@[simp] theorem bodyAnswer_pm25Raw (ans : Received) (s : State) : (s.bodyAnswer ans).pm25Raw = s.pm25Raw := by
  obtain ⟨-, h⟩ | ⟨_, -, -, h⟩ | ⟨_, -, -, -, h⟩ | ⟨_, -, -, -, h⟩ := bodyAnswer_cases ans s <;> simp [h]

@[simp] theorem bodyAnswer_pm10Raw (ans : Received) (s : State) : (s.bodyAnswer ans).pm10Raw = s.pm10Raw := by
  obtain ⟨-, h⟩ | ⟨_, -, -, h⟩ | ⟨_, -, -, -, h⟩ | ⟨_, -, -, -, h⟩ := bodyAnswer_cases ans s <;> simp [h]

@[simp] theorem bodyAnswer_readingHolds (ans : Received) (s : State) : (s.bodyAnswer ans).readingHolds = s.readingHolds := by
  obtain ⟨-, h⟩ | ⟨_, -, -, h⟩ | ⟨_, -, -, -, h⟩ | ⟨_, -, -, -, h⟩ := bodyAnswer_cases ans s <;> simp [h]

@[simp] theorem bodyAnswer_readingValid (ans : Received) (s : State) : (s.bodyAnswer ans).readingValid = s.readingValid := by
  obtain ⟨-, h⟩ | ⟨_, -, -, h⟩ | ⟨_, -, -, -, h⟩ | ⟨_, -, -, -, h⟩ := bodyAnswer_cases ans s <;> simp [h]

@[simp] theorem bodyAnswer_pins (ans : Received) (s : State) : (s.bodyAnswer ans).pins = s.pins := by
  obtain ⟨-, h⟩ | ⟨_, -, -, h⟩ | ⟨_, -, -, -, h⟩ | ⟨_, -, -, -, h⟩ := bodyAnswer_cases ans s <;> simp [h]

@[simp] theorem bodyAnswer_pending (ans : Received) (s : State) : (s.bodyAnswer ans).pending = s.pending := by
  obtain ⟨-, h⟩ | ⟨_, -, -, h⟩ | ⟨_, -, -, -, h⟩ | ⟨_, -, -, -, h⟩ := bodyAnswer_cases ans s <;> simp [h]

@[simp] theorem bodyAnswer_params (ans : Received) (s : State) : (s.bodyAnswer ans).params = s.params := by
  obtain ⟨-, h⟩ | ⟨_, -, -, h⟩ | ⟨_, -, -, -, h⟩ | ⟨_, -, -, -, h⟩ := bodyAnswer_cases ans s <;> simp [h]

@[simp] theorem bodyAnswer_agenda (ans : Received) (s : State) : (s.bodyAnswer ans).agenda = s.agenda := by
  obtain ⟨-, h⟩ | ⟨_, -, -, h⟩ | ⟨_, -, -, -, h⟩ | ⟨_, -, -, -, h⟩ := bodyAnswer_cases ans s <;> simp [h]

@[simp] theorem bodyAnswer_draws (ans : Received) (s : State) : (s.bodyAnswer ans).draws = s.draws := by
  obtain ⟨-, h⟩ | ⟨_, -, -, h⟩ | ⟨_, -, -, -, h⟩ | ⟨_, -, -, -, h⟩ := bodyAnswer_cases ans s <;> simp [h]

/-! ## Moves -/

/-- What an enabled accept is. -/
theorem canAccept_iff (s : State) : s.canAccept = true ↔
    s.pins.rst = false ∧ s.pins.reqValid = true ∧ s.fsm = .idle ∧ s.fault = false := by
  simp [State.canAccept, State.reqReady, and_assoc]

/-- All a move that answers a next state can be. -/
theorem applyMove_cases {m : Move} (h : applyMove m s = .next t) :
    t = s ∨
    (m = .accept ∧ s.canAccept = true ∧ ∃ i, Sys2Proof.decode s.pins.reqCtrl s.pins.reqPayload = .ok i ∧ exec i s = .next t) ∨
    (m = .accept ∧ s.canAccept = true ∧ (∃ e, Sys2Proof.decode s.pins.reqCtrl s.pins.reqPayload = .error e) ∧
      t = (s.beginOp (ctrlOp s.pins.reqCtrl)).complete .illegalOp) ∨
    (∃ a, m = .answer a ∧ s.pins.rst = false ∧ s.fsm = .scanReq ∧ t = (s.deliver 1 a).2.scanAnswer (s.deliver 1 a).1) ∨
    (∃ a, m = .answer a ∧ s.pins.rst = false ∧ s.fsm = .bodyReq ∧ t = (s.deliver 9 a).2.bodyAnswer (s.deliver 9 a).1) ∨
    (m = .expire ∧ s.pins.rst = false ∧ s.fsm = .backoff ∧ t = s.nextAttempt) ∨
    (∃ lost, m = .reset lost ∧ s.pins.rst = true ∧ t = s.resetBlock lost) ∨
    (∃ bs, m = .arrive bs ∧ t = { s with pending := s.pending ++ bs }) ∨
    (∃ p, m = .drive p ∧ t = { s with pins := p }) := by
  cases m with
  | accept =>
    cases hc : s.canAccept with
    | false => left; simpa [applyMove, hc, eq_comm] using h
    | true =>
      cases hd : Sys2Proof.decode s.pins.reqCtrl s.pins.reqPayload with
      | ok i => simp [applyMove, hc, acceptRequest, hd] at h; simp [h]
      | error e => simp [applyMove, hc, acceptRequest, hd] at h; simp [h]
  | answer a =>
    cases hr : s.pins.rst with
    | true => left; simpa [applyMove, State.answerRead, hr, eq_comm] using h
    | false =>
      cases hf : s.fsm <;> simp [applyMove, State.answerRead, hr, hf, bodyLen] at h <;> simp [h]
  | expire =>
    cases hr : s.pins.rst <;> cases hf : s.fsm <;>
      simp [applyMove, State.expireBackoff, State.backoffExpire, hr, hf] at h <;> simp [h]
  | reset lost => cases hr : s.pins.rst <;> simp [applyMove, hr] at h <;> simp [h]
  | arrive bs => simp [applyMove] at h; simp [h]
  | drive p => simp [applyMove] at h; simp [h]
  | hostRead r =>
    left
    cases hr : s.readOut r <;> simp [applyMove, hr] at h
    exact h.symm

/-! ## Taking a move -/

/-- Taking a move changes only the scheduling data. -/
theorem takeMove_state (s : State) : ∃ ag dr, s.takeMove.2 = { s with agenda := ag, draws := dr } := by
  unfold State.takeMove
  split
  · exact ⟨_, s.draws, rfl⟩
  · split
    · exact ⟨s.agenda, _, rfl⟩
    · split
      · exact ⟨s.agenda, s.draws, rfl⟩
      · exact ⟨s.agenda, _, rfl⟩

@[simp] theorem takeMove_cons (s : State) (m : Move) (rest : List Move) (h : s.agenda = m :: rest) :
    s.takeMove = (m, { s with agenda := rest }) := by
  simp [State.takeMove, h]

/-- A step is the next move, at the state with only its scheduling data changed. -/
theorem step_eq (s : State) : ∃ ag dr, s.takeMove.2 = { s with agenda := ag, draws := dr } ∧
    step s = applyMove s.takeMove.1 { s with agenda := ag, draws := dr } := by
  obtain ⟨ag, dr, h⟩ := takeMove_state s
  exact ⟨ag, dr, h, by rw [step, h]⟩

end Sys2Proof.Machine
end

