-- ==== Sys2Proof/Laws/Codec.lean ====
section
/-! SUPPORT. Lemmas about the operand view, the checksums, the command frame, and which status a request ends with. -/

namespace Sys2Proof.Machine

/-! ## The operand view -/

/-- The twelve elements of a lanes vector, listed. -/
theorem lanes_toList (p : Lanes) : p.toList =
    [p[0], p[1], p[2], p[3], p[4], p[5], p[6], p[7], p[8], p[9], p[10], p[11]] := by
  apply List.ext_getElem
  · simp
  · intro i h1 h2; simp at h1; interval_cases i <;> simp

/-- One byte of the operand view. -/
theorem opnd_getElem (plen : Byte) (lanes : List Byte) (i : Nat) (h : i < 12) :
    (opnd plen lanes)[i] = if i < plen.toNat then lanes.getD i 0 else 0 := by
  simp [opnd]

/-- The sum of the operand view. -/
theorem byteSum_opnd (plen : Byte) (lanes : List Byte) : byteSum (opnd plen lanes).toList =
    ((List.range 12).map fun i => (if i < plen.toNat then lanes.getD i 0 else 0 : Byte).toNat).sum := by
  rw [lanes_toList]; simp only [opnd_getElem]; rfl

/-! ## Checksums and the command frame -/

/-- The command checksum on the integers. -/
theorem cmdChecksum_toInt (c : Byte) (p : Lanes) :
    ((cmdChecksum c p).toNat : Int) = ((byteSum p.toList : Int) + c.toNat - 2) % 256 := by
  simp [cmdChecksum]; omega

/-- The fixed bytes, the command, the payload and the checksum of a command frame. -/
theorem buildFrame_bytes (c : Byte) (p : Lanes) :
    (buildFrame c p)[0] = 0xAA ∧ (buildFrame c p)[1] = 0xB4 ∧ (buildFrame c p)[2] = c ∧ (buildFrame c p)[15] = 0xFF ∧
    (buildFrame c p)[16] = 0xFF ∧ (buildFrame c p)[18] = 0xAB ∧ (buildFrame c p)[17] = cmdChecksum c p ∧
    ((buildFrame c p).toList.drop 3).take 12 = p.toList :=
  ⟨rfl, rfl, rfl, rfl, rfl, rfl, rfl, by rw [lanes_toList]; rfl⟩

/-! ## Statuses -/

variable {p : Params} {cmd plen : Byte}

theorem commandStatus_ok (h1 : plen.toNat ≤ 12) (h2 : cmdOK p cmd = true) : commandStatus p cmd plen = .ok := by
  obtain ⟨h, -⟩ | ⟨-, h⟩ | ⟨-, -, h⟩ := commandStatus_cases p cmd plen
  · exact h
  · omega
  · simp [h] at h2

theorem commandStatus_long (h1 : 12 < plen.toNat) : commandStatus p cmd plen = .invalidPayload := by
  obtain ⟨-, h, -⟩ | ⟨h, -⟩ | ⟨-, h, -⟩ := commandStatus_cases p cmd plen
  · omega
  · exact h
  · omega

theorem commandStatus_bad (h1 : plen.toNat ≤ 12) (h2 : cmdOK p cmd = false) :
    commandStatus p cmd plen = .invalidCommand := by
  obtain ⟨-, -, h⟩ | ⟨-, h⟩ | ⟨h, -⟩ := commandStatus_cases p cmd plen
  · simp [h] at h2
  · omega
  · exact h

/-- No request ends with NONE. -/
theorem commandStatus_ne_none : commandStatus p cmd plen ≠ .none := by
  obtain ⟨h, -⟩ | ⟨h, -⟩ | ⟨h, -⟩ := commandStatus_cases p cmd plen <;> simp [h]

theorem decodeStatus_ne_none (f : Lanes) : decodeStatus plen f ≠ .none := by
  obtain ⟨h, -⟩ | ⟨h, -⟩ | ⟨h, -⟩ := decodeStatus_cases plen f <;> simp [h]

/-! ## The selecting pattern -/

/-- A control word with the selecting pattern of OP = k decodes by its op code alone. -/
theorem decode_of_pattern (k : BitVec 4) (c : Ctrl) (l : Lanes) (h : c &&& 0xFF0000FF = k.setWidth 32) :
    Sys2Proof.decode c l = requestOf k (ctrlCmd c) (ctrlPlen c) l.toList := by
  obtain ⟨a, b, d⟩ := (mask_eq_iff c k).1 h
  rw [decode_of_reserved_zero _ _ a b, d]

end Sys2Proof.Machine
end

