-- ==== Sys2Proof/Laws/Flags.lean ====
section
/-! SUPPORT. Lemmas about STATUS_WORD's fields and about what the scan's and the body's steps do to the flags. -/

namespace Sys2Proof.Machine

/-- A one-bit field of STATUS_WORD has its bit at its place and nowhere else. -/
theorem bitAt_getLsbD (i j : Nat) (b : Bool) :
    (bitAt i b).getLsbD j = (decide (j < 16) && decide (j = i) && b) := by
  simp [bitAt]
  by_cases h1 : j < 16 <;> by_cases h2 : j < i <;> by_cases h3 : j = i <;> simp_all
  all_goals omega

/-- Only these three statuses are fatal. -/
theorem fatal_iff (st : Status) :
    st.fatal = true ↔ st = .invalidPayload ∨ st = .illegalOp ∨ st = .invalidCommand := by
  cases st <;> simp [Status.fatal]

/-- The block goes on scanning with its flags as they are, or completes with a status that is not fatal. -/
abbrev GoesOnOrEnds (u v : State) : Prop :=
  (v.done = u.done ∧ v.fault = u.fault ∧ v.fsm ≠ .idle) ∨
  (v.done = true ∧ v.status ≠ .none ∧ v.status.fatal = false ∧ v.fault = u.fault ∧ v.fsm = .idle)

theorem nextAttempt_flags (u : State) : GoesOnOrEnds u u.nextAttempt := by
  obtain ⟨-, h⟩ | ⟨-, h⟩ := nextAttempt_cases u <;> rw [h] <;> simp [GoesOnOrEnds, Status.fatal]

theorem scanAnswer_flags (ans : Received) (u : State) : GoesOnOrEnds u (u.scanAnswer ans) := by
  obtain ⟨-, h⟩ | ⟨_, -, -, h⟩ | ⟨_, -, -, h⟩ | ⟨_, -, -, -, h⟩ | ⟨-, -, h⟩ | ⟨_, _, -, -, -, h⟩ :=
    scanAnswer_cases ans u <;> rw [h]
  rotate_right
  · exact nextAttempt_flags u.countAttempt
  all_goals simp [GoesOnOrEnds, Status.fatal]

/-- The body's answer always completes, and FRAME_VALID stays or is set with OK. -/
theorem bodyAnswer_flags (ans : Received) (u : State) :
    (u.bodyAnswer ans).done = true ∧ (u.bodyAnswer ans).status ≠ .none ∧ (u.bodyAnswer ans).status.fatal = false ∧
    (u.bodyAnswer ans).fault = u.fault ∧ (u.bodyAnswer ans).fsm = .idle ∧
    ((u.bodyAnswer ans).frameValid = u.frameValid ∨
      ((u.bodyAnswer ans).frameValid = true ∧ (u.bodyAnswer ans).status = .ok)) := by
  obtain ⟨-, h⟩ | ⟨_, -, -, h⟩ | ⟨_, -, -, -, h⟩ | ⟨_, -, -, -, h⟩ := bodyAnswer_cases ans u <;>
    rw [h] <;> simp [Status.fatal]

end Sys2Proof.Machine
end

