-- ==== Sys2Proof/Laws/Invariant.lean ====
section
/-! SUPPORT. Lemmas about the invariant: a completion and the next attempt of a scan keep it, and a built frame is a command frame. -/

namespace Sys2Proof.Machine

/-- The frame built for an accepted command is a command frame. -/
theorem isCommandFrame_buildFrame (p : Params) (c : Byte) (l : Lanes) (h : cmdOK p c = true) :
    isCommandFrame p (buildFrame c l) = true := by
  have hl : l = #v[l[0], l[1], l[2], l[3], l[4], l[5], l[6], l[7], l[8], l[9], l[10], l[11]] := by
    ext i hi
    interval_cases i <;> rfl
  simp only [isCommandFrame, Bool.and_eq_true, beq_iff_eq]
  exact ⟨⟨⟨⟨⟨⟨rfl, rfl⟩, h⟩, rfl⟩, rfl⟩, rfl⟩, congrArg (cmdChecksum c) hl⟩

/-- A completion needs only the parts of the invariant that do not speak of the flags. -/
theorem inv_complete (s : State) (st : Status) (hst : st ≠ .none) (hf : s.fault = false)
    (hb : 1 ≤ s.params.scanBudget) (ha : s.attempts ≤ s.params.scanBudget) (hr : s.RxInv) (hres : s.ResultInv) :
    (s.complete st).Inv := by
  refine ⟨⟨?_, ?_, ?_⟩, ⟨hb, ha, ?_, ?_, ?_, ?_⟩, hr, hres⟩ <;> simp [hst, hf, State.busy]

/-- A busy block has no status and no fault. -/
theorem inv_busy {s : State} (h : s.Inv) (hb : s.busy = true) :
    s.done = false ∧ s.status = .none ∧ s.fault = false := by
  obtain ⟨⟨a1, a2, a3⟩, -⟩ := h
  have a4 := a3 hb
  have a5 : s.status = .none := by simpa [a4] using a1
  exact ⟨a4, a5, by rw [a2, a5]; rfl⟩

/-- The next attempt keeps the invariant while the budget allows another. -/
theorem inv_nextAttempt (s : State) (h : s.Inv) (hb : s.busy = true) (ha : s.attempts < s.params.scanBudget)
    (hl : s.rxLen = 0) : s.nextAttempt.Inv := by
  obtain ⟨c1, -, c3⟩ := inv_busy h hb
  obtain ⟨⟨a1, a2, -⟩, ⟨b1, b2, b3, -⟩, c, d⟩ := h
  obtain ⟨-, h⟩ | ⟨-, h⟩ := nextAttempt_cases s <;> rw [h]
  · exact inv_complete _ _ (by simp) c3 b1 b2 c d
  · exact ⟨⟨a1, a2, fun _ => c1⟩, ⟨b1, b2, fun _ => b3 hb, fun _ => ⟨ha, hl⟩, by simp, by simp⟩, c, d⟩

end Sys2Proof.Machine
end

