-- ==== Sys2Proof/Laws/PerInstr.lean ====
section
/-! SUPPORT. A statement for every request, one lemma per constructor: the words of a request are legal. -/

namespace Sys2Proof.Laws.LegalWord

/-- The encoded control word has the selecting pattern of the request's op code (30_encoding.md R72) and its CMD and PLEN
fields, and a well-formed request's lanes are on the port as they are. -/
def Statement (i : Instr) : Prop :=
  (Sys2Proof.encode i).ctrl &&& 0xFF0000FF = i.op.setWidth 32 ∧ ctrlCmd (Sys2Proof.encode i).ctrl = i.cmd ∧
  ctrlPlen (Sys2Proof.encode i).ctrl = i.plen ∧ (i.wf = true → (Sys2Proof.encode i).lanes.toList = i.lanes)

/-- The one argument behind the six lemmas. -/
theorem of_any (i : Instr) : Statement i :=
  ⟨(mask_eq_iff _ _).2 ⟨ctrlReservedLow_packCtrl .., ctrlReservedHigh_packCtrl .., ctrlOp_packCtrl ..⟩,
    ctrlCmd_packCtrl .., ctrlPlen_packCtrl .., fun h => toList_lanesOf _ (by simpa [Instr.wf] using h)⟩

theorem encode (cmd plen : Byte) (lanes : List Byte) : Statement (.encode cmd plen lanes) := of_any _
theorem cksumC (cmd plen : Byte) (lanes : List Byte) : Statement (.cksumC cmd plen lanes) := of_any _
theorem cksumR (cmd plen : Byte) (lanes : List Byte) : Statement (.cksumR cmd plen lanes) := of_any _
theorem findstart (cmd plen : Byte) (lanes : List Byte) : Statement (.findstart cmd plen lanes) := of_any _
theorem readframe (cmd plen : Byte) (lanes : List Byte) : Statement (.readframe cmd plen lanes) := of_any _
theorem decode (cmd plen : Byte) (lanes : List Byte) : Statement (.decode cmd plen lanes) := of_any _

end Sys2Proof.Laws.LegalWord
end

