-- ==== Sys2Proof/Laws/Run.lean ====
section
/-! SUPPORT. Lemmas about steps taken from the agenda and about runs of several steps. -/

namespace Sys2Proof.Machine

variable {s t : State}

/-- A step with a listed next move is that move. -/
theorem step_agenda {m : Move} {rest : List Move} (h : s.agenda = m :: rest) :
    step s = applyMove m { s with agenda := rest } := by
  rw [step, takeMove_cons s m rest h]

/-- A run is its first step, then the rest. -/
theorem run_succ (n : Nat) (h : step s = .next t) : core.run (n + 1) s = core.run n t := by
  have h' : core.step s = .next t := h
  simp only [Host.Core.run]; rw [h']

/-- A run in two parts. -/
theorem run_add (m n : Nat) (s t : State) (h : core.run m s = .next t) : core.run (m + n) s = core.run n t := by
  induction m generalizing s with
  | zero => cases h; simp
  | succ m ih =>
    rw [Nat.succ_add]
    simp only [Host.Core.run] at h ⊢
    cases hs : core.step s with
    | next u => rw [hs] at h; exact ih u h
    | fault r => rw [hs] at h; cases h
    | refused r => rw [hs] at h; cases h

@[simp] theorem applyMoves_nil (s : State) : applyMoves [] s = .next s := rfl

/-- A list of moves is its first move, then the rest. -/
theorem applyMoves_cons {m : Move} (ms : List Move) (h : applyMove m s = .next t) :
    applyMoves (m :: ms) s = applyMoves ms t := by
  simp [applyMoves, h]

/-- The answer to the scan's read. -/
theorem answerRead_scanReq (a : Answer) (hr : s.pins.rst = false) (hf : s.fsm = .scanReq) :
    s.answerRead a = (s.deliver 1 a).2.scanAnswer (s.deliver 1 a).1 := by
  simp [State.answerRead, hr, hf]

/-- The answer to the body's read. -/
theorem answerRead_bodyReq (a : Answer) (hr : s.pins.rst = false) (hf : s.fsm = .bodyReq) :
    s.answerRead a = (s.deliver 9 a).2.bodyAnswer (s.deliver 9 a).1 := by
  simp [State.answerRead, hr, hf, bodyLen]

end Sys2Proof.Machine
end

