-- ==== Sys2Proof/Tests/Slice0.lean ====
section
/-! SUPPORT. The model's own tests: well-formedness, decoding, single steps against spec/95_test_vectors.md, and witnesses of the statements' hypotheses. -/

namespace Sys2Proof.Tests

open Sys2Proof Sys2Proof.Machine

/-! ## Helpers -/

/-- Twelve lanes: the bytes given, then 0x00. -/
def lanes (bs : List Byte) : List Byte := bs ++ List.replicate (12 - bs.length) 0

/-- A machine with a request on its port. -/
def present (c : Ctrl) (bs : List Byte) (s : State) : State :=
  { s with pins := { s.pins with reqValid := true, reqCtrl := c, reqPayload := lanesOf bs } }

/-- The state after one step, where the step answers one. -/
def after (s : State) : Option State :=
  match step s with
  | .next t => some t
  | .fault _ => none
  | .refused _ => none

/-- The state after one step that accepts a request, from reset. -/
def run1 (c : Ctrl) (bs : List Byte) : Option State := after (present c bs State.reset)

/-- As `run1`, with ALLOW_ANY_CMD. -/
def runAny (c : Ctrl) (bs : List Byte) : Option State :=
  after (present c bs { State.reset with params := { Config.defaults with allowAnyCmd := true } })

/-- A block in the middle of a scan, the last answer's move next. -/
def scanning (attempts : Nat) (pending : List Byte) : State :=
  { State.reset with
    fsm := .scanReq, curOp := 0x5, attempts := attempts, pending := pending, agenda := [.answer (.bytes 9)] }

/-- A block waiting for the body, its answer next. -/
def inBody (strict : Bool) (pending : List Byte) (len : Nat) : State :=
  { State.reset with
    fsm := .bodyReq, curOp := 0x5, attempts := 1, rxFrame := #v[0xAA, 0, 0, 0, 0, 0, 0, 0, 0, 0], rxLen := 1
    pending := pending, params := { Config.defaults with strictChecksum := strict }, agenda := [.answer (.bytes len)] }

/-- The body of the source's example frame (95_test_vectors.md X8, F1). -/
def body1 : List Byte := [0xC0, 0x99, 0x00, 0x2C, 0x01, 0x00, 0x00, 0x86, 0xAB]

/-! ## Well-formedness: each check refuses an ill-formed term -/

theorem test_wf_rejects_eleven_lanes : (Instr.encode 4 0 (List.replicate 11 0)).wf = false := by decide
theorem test_wf_rejects_thirteen_lanes : (Instr.decode 0 10 (List.replicate 13 0)).wf = false := by decide
theorem test_wf_accepts_twelve_lanes : (Instr.cksumR 0xFF 255 (List.replicate 12 0xFF)).wf = true := by decide
theorem test_wf_rejects_long_encode : (Asm.encode (.name .mode) (List.replicate 256 0)).wf = false := by decide +kernel
theorem test_wf_rejects_long_cksumC : (Asm.cksumC (.byte 8) (List.replicate 256 0)).wf = false := by decide +kernel
theorem test_wf_rejects_long_cksumR : (Asm.cksumR (List.replicate 256 0)).wf = false := by decide +kernel
theorem test_wf_rejects_long_decode : (Asm.decode (List.replicate 256 0)).wf = false := by decide +kernel
theorem test_wf_rejects_mode_256 : (Asm.setMode 256).wf = false := by decide
theorem test_wf_rejects_period_256 : (Asm.setPeriod 256).wf = false := by decide
theorem test_wf_accepts_period_255 : (Asm.setPeriod 255).wf = true := by decide

/-! ## Decoding: words written out from 30_encoding.md R70 and R72 -/

/- PLEN = 0x02 in [23:16], CMD = 0x08 in [15:8], reserved [7:4] = 0, OP = 0x1 in [3:0]; lane 0 in bits 39..32 and lane 1 in
bits 47..40 (log entry 11). -/
theorem test_decode_encode :
    decodeTableWord 48 0x2DFF00020801 = some (.encode 0x08 0x02 (lanes [0xFF, 0x2D])) := by decide
theorem test_decode_cksumC :
    decode 0x00020802 (lanesOf [0xFF, 0x2D]) = .ok (.cksumC 0x08 0x02 (lanes [0xFF, 0x2D])) := by decide
theorem test_decode_cksumR : decode 0x00030003 (lanesOf [0xAA, 0xC0, 0x99]) =
    .ok (.cksumR 0x00 0x03 (lanes [0xAA, 0xC0, 0x99])) := by decide
theorem test_decode_findstart : decodeTableWord 32 0x00000004 = some (.findstart 0 0 (lanes [])) := by decide
theorem test_decode_readframe : decode 0x00FF7705 (lanesOf []) = .ok (.readframe 0x77 0xFF (lanes [])) := by decide
theorem test_decode_decode : decode 0x00FF0006 (lanesOf [0x00, 0xC0]) =
    .ok (.decode 0x00 0xFF (lanes [0x00, 0xC0])) := by decide
/- 95_test_vectors.md A1 to A6. -/
theorem test_illegal_words : ([0x00000000, 0x00000007, 0x0000000F, 0x00000014, 0x01000001, 0x00000081].map
    fun c => decodeTableWord 32 c) = [none, none, none, none, none, none] := by decide
/- No two rows of the opcode table overlap. -/
theorem test_opTable_disjoint : opTable.Pairwise fun a b =>
    a.pattern &&& (a.mask &&& b.mask) ≠ b.pattern &&& (a.mask &&& b.mask) := by decide
/- 95_test_vectors.md E10, X11, and P4 step 2 (13 bytes are assembled, not refused: 30_encoding.md R90). -/
theorem test_assemble_setperiod :
    assemble (.setPeriod 255) = some ⟨0x00020801, lanesOf [0x01, 0xFF]⟩ := by decide
theorem test_assemble_setsleep_inverted :
    assemble (.setSleep true) = some ⟨0x00020601, lanesOf [0x01, 0x00]⟩ := by decide
theorem test_assemble_thirteen_bytes :
    assemble (.encode (.byte 6) (List.replicate 13 1)) = some ⟨0x000D0601, lanesOf (List.replicate 12 1)⟩ := by decide

/-! ## ENCODE, CKSUM.C, CKSUM.R (95_test_vectors.md section 2.1) -/

/- E22: no escaping. -/
theorem test_encode_frame : (run1 0x00030401 [0xAA, 0xAB, 0xFF]).map (fun t => (t.txFrame.toList, t.txValid)) =
    some ([0xAA, 0xB4, 0x04, 0xAA, 0xAB, 0xFF, 0, 0, 0, 0, 0, 0, 0, 0, 0, 0xFF, 0xFF, 0x56, 0xAB], true) := by decide
/- E16. -/
theorem test_encode_bad_command : (run1 0x00000301 []).map State.statusWord = some 0x003A := by decide
/- X10: the negative argument of mod. -/
theorem test_cksumC_negative : (runAny 0x00000002 []).map State.cksumOut = some 0xFE := by decide
/- E21: INVALID_PAYLOAD is checked first. -/
theorem test_cksumC_order : (run1 0x000D0302 [1, 2, 3]).map State.statusWord = some 0x0032 := by decide
/- E24. -/
theorem test_cksumR : (run1 0x000A0003 (0xAA :: body1)).map (fun t => (t.cksumOut, t.statusWord)) =
    some (0x86, 0x0211) := by decide
/- E25: bytes at or above PLEN read 00. -/
theorem test_cksumR_short : (run1 0x00030003 [0xAA, 0xC0, 0x99, 0x55]).map State.cksumOut = some 0x59 := by decide

/-! ## FINDSTART and READFRAME -/

/- 41_stream_reader.md R131, R132: CANCEL is not sampled at start; CMD, PLEN and the lanes are ignored. -/
theorem test_findstart_starts : (after { present 0x00FF5504 [1] State.reset with
    pins := { (present 0x00FF5504 [1] State.reset).pins with cancel := true } }).map
      (fun t => (t.rdReq, t.curOp, t.statusWord)) = some (some 1, 0x4, 0x0040) := by decide
theorem test_readframe_starts : (run1 0x00000005 []).map (fun t => (t.rdReq, t.curOp, t.statusWord)) =
    some (some 1, 0x5, 0x0040) := by decide
/- S2: a match on the last attempt is a success; S3: the budget is exhausted, and the next byte stays pending; S4: an empty
read starts the backoff wait; S12: CANCEL is sampled at the backoff expiry. -/
theorem test_scan_answers :
    (after (scanning 99 (0xAA :: body1))).map (fun t => (t.fsm, t.attempts, t.rdReq)) = some (.bodyReq, 100, some 9) ∧
    (after (scanning 99 [0x00, 0xAA])).map (fun t => (t.status, t.attempts, t.pending)) = some (.noSync, 100, [0xAA]) ∧
    (after (scanning 0 [])).map (fun t => (t.fsm, t.attempts)) = some (.backoff, 1) ∧
    (after { (scanning 1 []).withCancel true with fsm := .backoff, agenda := [.expire] }).map
      (fun t => (t.status, t.done, t.attempts)) = some (.cancelled, true, 1) :=
  ⟨by decide, by decide, by decide, by decide⟩
/- 00_scope.md R7: ATTEMPTS has 7 bits at the default budget, and 8 at a budget of 128. -/
theorem test_attempts_register : nextCount Config.defaults 127 = 0 ∧
    nextCount { Config.defaults with scanBudget := 128 } 127 = 128 := by decide
/- F1; F4: a strict mismatch; F9: a short answer, and the rest stays pending. -/
theorem test_body_answers :
    (after (inBody false body1 9)).map (fun t => (t.rxFrame.toList, t.statusWord)) = some (0xAA :: body1, 0x5091) ∧
    (after (inBody true (body1.set 7 0x87) 9)).map State.statusWord = some 0x5018 ∧
    (after (inBody false body1 3)).map (fun t => (t.statusWord, t.pending)) = some (0x2014, body1.drop 3) :=
  ⟨by decide, by decide, by decide⟩

/-! ## DECODE (section 2.4) -/

/- D5v. -/
theorem test_decode_values : (run1 0x00FF0006 [0x00, 0xC0, 0x34, 0x12, 0x78, 0x56]).map
    (fun t => (t.pm25Raw, t.pm10Raw, t.statusWord)) = some (0x1234, 0x5678, 0x0411) := by decide
/- D3v: the length is tested first. -/
theorem test_decode_short : (run1 0x00020006 [0xAA, 0x00]).map State.statusWord = some 0x0017 := by decide
/- X3: 15.3. -/
theorem test_reading : microgramsPerCubicMetre 153 = 153 / 10 := by
  simp [microgramsPerCubicMetre]

/-! ## Accept, fault, reset (section 2.5) -/

/- A4. -/
theorem test_illegal_op : (run1 0x00000014 []).map State.statusWord = some 0x0039 := by decide
/- A7: nothing is accepted until reset; A8, A9: what reset leaves. -/
theorem test_fault_blocks : State.canAccept { present 0x00000004 [] State.reset with fault := true } = false := by decide
theorem test_reset_mid_scan : (after { scanning 7 [0x01, 0x02, 0xAA] with
    pins := { pinsAtReset with rst := true }, agenda := [.reset 1] }).map
      (fun t => (t.statusWord, t.reqReady, t.attempts, t.pending)) = some (0, true, 0, [0x02, 0xAA]) := by decide
/- 10_state.md R30: a read of CKSUM_OUT before it is written is a fault, of STATUS_WORD is not. -/
theorem test_read_no_value : State.reset.readOut .cksumOut = .error (.readNoValue .cksumOut) := by decide
theorem test_read_status_word : State.reset.readOut .statusWord = .ok 0 := by decide

/-! ## Witnesses: for every statement with hypotheses, a state and operands that meet them, clause by clause -/

theorem witness_DecodeEncodeAllRequests : (Instr.encode 0xFF 255 (List.replicate 12 0xFF)).wf = true := by decide

theorem witness_EncodeDecodeLegalWords : decode 0x00FFFF06 (lanesOf [1]) = .ok (.decode 0xFF 0xFF (lanes [1])) := by decide

/- One word for each clause, with CMD and PLEN at their bounds; then the lowest and the highest reserved op code, and a
reserved bit set. -/
theorem witness_OpcodeSelectsRequest : ([0x00000001, 0x00FFFF02, 0x00FF0003, 0x0000FF04, 0x00FFFF05, 0x00000006].map
    fun c : Ctrl => c &&& 0xFF0000FF) = [1, 2, 3, 4, 5, 6] ∧
    ([0x00000000, 0x0000000F, 0x00000011, 0x80000001].map fun c : Ctrl => [1, 2, 3, 4, 5, 6].contains (c &&& 0xFF0000FF)) =
      [false, false, false, false] := by decide

theorem witness_IllegalWordCompletesFatal : (present 0x00000007 [] State.reset).canAccept = true ∧
    decode 0x00000007 (lanesOf []) = .error .reservedOp ∧ decode 0x00000014 (lanesOf []) = .error .reservedLow ∧
    decode 0x01000001 (lanesOf []) = .error .reservedHigh := by decide

theorem witness_PseudoInstructionsExpand : (0 ≤ 255 ∧ 255 ≤ 255) ∧ 255 < 256 := by decide

theorem witness_AssembledListsDecode : ([] : List Byte).length ≤ 255 ∧ (List.replicate 255 (0 : Byte)).length ≤ 255 ∧
    255 < (List.replicate 256 (0 : Byte)).length := by decide +kernel

/- The three arguments that are negative, the parameter they need, and a command of CMD_CODES. -/
theorem witness_CommandChecksumRange : byteSum (lanesOf []).toList = 0 ∧ byteSum (lanesOf [1]).toList = 1 ∧
    ((byteSum (lanesOf [1]).toList : Int) + ((0 : Byte).toNat : Int) - 2 < 0) ∧
    cmdOK { Config.defaults with allowAnyCmd := true } 0 = true ∧ (0x02 : Byte) ∈ cmdCodes := by decide

theorem witness_InvalidCommandRefused : (12 : Byte).toNat ≤ 12 ∧
    (0x03 : Byte) ∉ [0x02#8, 0x04#8, 0x05#8, 0x06#8, 0x07#8, 0x08#8] ∧ State.reset.params.allowAnyCmd = false := by decide

theorem witness_EncodeBuildsFrame : (0x000C0801 : Ctrl) &&& 0xFF0000FF = 0x00000001 ∧
    ((12 : Byte).toNat ≤ 12 ∧ cmdOK State.reset.params 0x08 = true) ∧ 12 < (13 : Byte).toNat ∧
    ((0 : Byte).toNat ≤ 12 ∧ cmdOK State.reset.params 0x09 = false) := by decide

theorem witness_EncodedFrameProperties :
    (∃ t, exec (.encode 0x08 12 (lanes [])) State.reset = .next t ∧ t.status = .ok) ∧
    (∃ t, exec (.encode 0x08 13 (lanes [])) State.reset = .next t) ∧ 12 < (13 : Byte).toNat :=
  ⟨⟨_, rfl, by decide⟩, ⟨_, rfl⟩, by decide⟩

theorem witness_CksumCGivesCommandChecksum : (0x00FFFF02 : Ctrl) &&& 0xFF0000FF = 0x00000002 ∧
    ((12 : Byte).toNat ≤ 12 ∧ cmdOK State.reset.params 0x02 = true) ∧ 12 < (13 : Byte).toNat ∧
    ((12 : Byte).toNat ≤ 12 ∧ cmdOK State.reset.params 0x03 = false) := by decide

theorem witness_CksumRGivesResponseChecksum : (0x00FF0003 : Ctrl) &&& 0xFF0000FF = 0x00000003 := by decide

theorem witness_DecodeYieldsRawValues : (0x000A0006 : Ctrl) &&& 0xFF0000FF = 0x00000006 ∧
    (10 ≤ (10 : Byte).toNat ∧ (lanes [0xAA, 0xC0]).getD 1 0 = 0xC0) ∧ (9 : Byte).toNat < 10 ∧
    (10 ≤ (255 : Byte).toNat ∧ (lanes [0xAA, 0xC1]).getD 1 0 ≠ 0xC0) := by decide

theorem witness_DecodeReadingExactlyWhen :
    (∃ t, exec (.decode 0 10 (lanes [0xAA, 0xC0, 1])) State.reset = .next t ∧ t.readingValid = true) ∧
    (∃ t, exec (.decode 7 11 (lanes [0xAB, 0xC0, 1])) (scanning 3 []) = .next t ∧ t.readingValid = true) ∧
    (∀ i : Fin 12, 2 ≤ i.val → i.val ≤ 5 →
      (opnd 10 (lanes [0xAA, 0xC0, 1]))[i] = (opnd 11 (lanes [0xAB, 0xC0, 1]))[i]) :=
  ⟨⟨_, rfl, by decide⟩, ⟨_, rfl, by decide⟩, by decide⟩

theorem witness_ReadingIsExactRational : ({ State.reset with readingValid := true } : State).readingValid = true := by decide

theorem witness_StepRunsDecodedRequest :
    ({ present 0x00000004 [] State.reset with agenda := [.accept] } : State).takeMove =
      (.accept, present 0x00000004 [] State.reset) ∧
    (present 0x00000004 [] State.reset).canAccept = true ∧ (present 0x00000004 [] State.reset).agenda = [] ∧
    decode 0x00000004 (lanesOf []) = .ok (.findstart 0 0 (lanes [])) := by decide

theorem witness_FetchWordRunsNext : decodeTableWord 128 0x00FFFF05 = some (.readframe 0xFF 0xFF (lanes [])) := by decide

theorem witness_RequestWaitsWhenNotReady : (scanning 0 []).reqReady = false ∧ State.reset.pins.reqValid = false := by decide

/- A match with one byte asked for on the last attempt, an answer of no bytes, an empty stream, and a miss; the last
attempt and CANCEL each both ways. Each is below the budget, where the counter does not wrap. -/
theorem witness_ScanAnswerStep : ((scanning 99 [0xAA]).fsm = .scanReq ∧ (scanning 99 [0xAA]).pins.rst = false) ∧
    (1 ≤ 1 ∧ (scanning 99 [0xAA]).pending = 0xAA :: []) ∧ ((0 = 0 ∨ (scanning 0 [1]).pending = []) ∧
    (1 = 0 ∨ (scanning 0 []).pending = [])) ∧ ((scanning 0 [0xAB]).pending = 0xAB :: [] ∧ (0xAB : Byte) ≠ 0xAA) ∧
    (scanning 99 [0xAB]).attempts + 1 = (scanning 99 [0xAB]).params.scanBudget ∧
    ((scanning 98 [0xAB]).withCancel true).attempts + 1 ≠ ((scanning 98 [0xAB]).withCancel true).params.scanBudget ∧
    ((scanning 98 [0xAB]).withCancel true).pins.cancel = true ∧
    (scanning 99 [0xAB]).attempts < (scanning 99 [0xAB]).params.scanBudget := by decide

theorem witness_BackoffExpiryStep : (({ scanning 1 [] with fsm := .backoff } : State).pins.rst = false ∧
    (({ scanning 1 [] with fsm := .backoff } : State).withCancel true).pins.cancel = true) ∧
    ({ scanning 1 [] with fsm := .backoff } : State).pins.cancel = false ∧ (scanning 1 []).fsm ≠ .backoff := by decide

/- Two moves that do not sample CANCEL, in a scanning block: the match, and a backoff expiry with no backoff running. -/
theorem witness_CancelSampledOnlyBetweenAttempts : (∀ p, Move.expire ≠ .drive p) ∧
    ¬(Move.expire = .expire ∧ (scanning 0 [0xAA]).fsm = .backoff) ∧
    ¬((∃ len, Move.answer (.bytes 1) = .answer (.bytes (len + 1))) ∧ (scanning 0 [0xAA]).fsm = .scanReq ∧
      ∃ x rest, (scanning 0 [0xAA]).pending = x :: rest ∧ x ≠ 0xAA) := by
  refine ⟨nofun, by decide, ?_⟩
  rintro ⟨-, -, x, rest, h, hx⟩
  injection h with h _
  exact hx h.symm

theorem witness_OnlyAnswerMovesAReadingBlock : (scanning 0 []).fsm = .scanReq ∧ (inBody true [] 0).fsm = .bodyReq ∧
    (inBody true [] 0).pins.rst = false ∧ (∀ a, Move.accept ≠ .answer a) ∧
    applyMove .accept (inBody true [] 0) = .next (inBody true [] 0) := ⟨rfl, rfl, rfl, nofun, rfl⟩

/- 8 and 9 bytes delivered, and a strict mismatch. -/
theorem witness_BodyAnswerStep : (inBody true body1 9).fsm = .bodyReq ∧ (inBody true body1 9).pins.rst = false ∧
    min (min 8 9) (inBody true body1 9).pending.length < 9 ∧ ¬ min (min 9 9) (inBody true body1 9).pending.length < 9 ∧
    (inBody true (body1.set 7 0x87) 9).params.strictChecksum = true := by decide

/- Bytes taken by an answer, by a reset, and bytes arriving. -/
theorem witness_StreamTakenFromHeadInOrder :
    (∃ t, step (inBody false body1 9) = .next t ∧ t.pending = []) ∧
    (∃ t, step { scanning 0 [1, 2] with pins := { pinsAtReset with rst := true }, agenda := [.reset 1] } = .next t ∧
      t.pending = [2]) ∧
    (∃ t, step { scanning 0 [1] with agenda := [.arrive [2]] } = .next t ∧ t.pending = [1, 2]) :=
  ⟨⟨_, rfl, by decide⟩, ⟨_, rfl, by decide⟩, ⟨_, rfl, by decide⟩⟩

/- The header at the last index the budget reaches, and both operations. -/
theorem witness_ScanFindsFirstHeader : ∃ s : State, s.fsm = .scanReq ∧ s.attempts = 0 ∧ s.pins.rst = false ∧
    s.pins.cancel = false ∧ s.pending = [0x55] ++ 0xAA :: [1] ∧ (0xAA : Byte) ∉ [0x55#8] ∧
    [0x55#8].length < s.params.scanBudget ∧ s.params.scanBudget = 2 ∧
    s.agenda = (referenceAnswers 2).map .answer ++ [.accept] ∧ s.curOp ≠ 4 ∧ ({ s with curOp := 4 } : State).curOp = 4 :=
  ⟨{ scanning 0 [0x55, 0xAA, 1] with
      params := { Config.defaults with scanBudget := 2 }, agenda := (referenceAnswers 2).map .answer ++ [.accept] },
    by decide⟩

/- The header right after the budget's bytes. -/
theorem witness_ScanWithoutHeaderEndsNoSync : ∃ s : State, s.fsm = .scanReq ∧ s.attempts = 0 ∧ s.pins.rst = false ∧
    s.pins.cancel = false ∧ 1 ≤ s.params.scanBudget ∧ (0xAA : Byte) ∉ s.pending.take s.params.scanBudget ∧
    s.agenda = fairAnswers (referenceAnswers s.params.scanBudget) ++ [] :=
  ⟨{ scanning 0 [0x55, 0xAA] with
      params := { Config.defaults with scanBudget := 1 }, agenda := fairAnswers (referenceAnswers 1) }, by decide⟩

/- A miss below the budget, and CANCEL both ways. -/
theorem witness_BackoffAfterMissWouldChangeNothing : (scanning 98 [0xAB]).fsm = .scanReq ∧
    (scanning 98 [0xAB]).pins.rst = false ∧ (scanning 98 [0xAB]).pending = 0xAB :: [] ∧ (0xAB : Byte) ≠ 0xAA ∧
    (scanning 98 [0xAB]).countAttempt.attempts ≠ (scanning 98 [0xAB]).params.scanBudget ∧
    ((scanning 98 [0xAB]).withCancel true).countAttempt.attempts ≠ (scanning 98 [0xAB]).params.scanBudget := by decide

/-- The moves of an endless run: the accept, then an answer for ever. -/
def fairMoves : Nat → Move
  | 0 => .accept
  | _ + 1 => .answer (.bytes 9)

/-- The states of that run: a READFRAME of the source's example frame. -/
def fairStates : Nat → State
  | 0 => { present 0x00000005 [] State.reset with pending := 0xAA :: body1 }
  | n + 1 =>
    match applyMove (fairMoves n) (fairStates n) with
    | .next t => t
    | .fault _ => fairStates n
    | .refused _ => fairStates n

/- Once the frame is received, the answers change nothing. -/
theorem fairStates_end : ∀ n, fairStates (n + 3) = fairStates 3
  | 0 => rfl
  | n + 1 => by
    have h : fairStates (n + 4) = (fairStates (n + 3)).answerRead (.bytes 9) := rfl
    rw [h, fairStates_end n]; decide

theorem fairStates_rst : ∀ n, (fairStates n).pins.rst = false
  | 0 => by decide
  | 1 => by decide
  | 2 => by decide
  | n + 3 => by rw [fairStates_end n]; decide

/- In this run READFRAME completes in the third step: every premise holds, that of the StreamRead(9) too. -/
theorem witness_EveryRequestCompletesUnderFairness : isRun fairMoves fairStates ∧ (fairStates 0).Inv ∧
    fairMoves 0 = .accept ∧ (fairStates 0).canAccept = true ∧ (∀ m, 0 ≤ m → (fairStates m).pins.rst = false) ∧
    decode (fairStates 0).pins.reqCtrl (fairStates 0).pins.reqPayload = .ok (.readframe 0 0 (lanes [])) ∧
    scans (.readframe 0 0 (lanes [])) ∧ fairScanAnswers fairMoves fairStates ∧ fairExpiry fairMoves fairStates ∧
    fairBodyAnswers fairMoves fairStates ∧ (fairStates 2).fsm = .bodyReq ∧ (fairStates 3).status = .ok := by
  refine ⟨?_, by decide, rfl, by decide, fun m _ => fairStates_rst m, by decide, .inr rfl,
    fun n _ => ⟨n + 1, by omega, _, rfl⟩, fun n h => ?_, fun n _ => ⟨n + 1, by omega, _, rfl⟩, by decide, by decide⟩
  · rintro (_ | n) <;> rfl
  · have h3 := (h (n + 3) (by omega)).1
    rw [fairStates_end n] at h3
    exact absurd h3 (by decide)

theorem witness_EveryScanEnds : ∃ (s : State) (as : List Answer), s.Inv ∧ s.pins.rst = false ∧ s.fsm = .backoff ∧
    as.length = s.params.scanBudget ∧ s.agenda = fairAnswers as ++ [] :=
  ⟨{ scanning 1 [] with
      fsm := .backoff, params := { Config.defaults with scanBudget := 2 }
      agenda := fairAnswers [.error 3, .bytes 0] }, [.error 3, .bytes 0], by decide⟩

/- A good frame, and a bad one in strict mode. -/
theorem witness_ReadFrameReturnsFirstFrame : ∃ s : State, s.fsm = .scanReq ∧ s.curOp = 0x5 ∧ s.attempts = 0 ∧
    s.pins.rst = false ∧ s.pins.cancel = false ∧ s.pending = [0x55] ++ 0xAA :: (body1 ++ [7]) ∧ (0xAA : Byte) ∉ [0x55#8] ∧
    [0x55#8].length < s.params.scanBudget ∧ body1.length = 9 ∧ s.params.strictChecksum = true ∧
    s.agenda = (referenceAnswers 3).map .answer ++ [] ∧ byteSum (body1.take 7) % 256 = (body1.getD 7 0).toNat ∧
    byteSum ((body1.set 7 0x87).take 7) % 256 ≠ ((body1.set 7 0x87).getD 7 0).toNat :=
  ⟨{ scanning 0 (0x55 :: 0xAA :: (body1 ++ [7])) with
      params := { Config.defaults with strictChecksum := true }, agenda := (referenceAnswers 3).map .answer }, by decide⟩

theorem witness_FatalStopsUntilReset : ∃ s t : State, s.Inv ∧ s.fault = true ∧ step s = .next t :=
  ⟨{ State.reset with fault := true, done := true, status := .illegalOp, agenda := [.accept] }, _, by decide, by decide, rfl⟩

/- Every flag changes in each direction from some state with the invariant: DONE, FAULT, BUSY, FRAME_VALID, TX_VALID,
CKSUM_VALID, READING_VALID. -/
theorem witness_FlagsChange_rise :
    (inBody false body1 9).Inv ∧ (after (inBody false body1 9)).map (fun t => (t.done, t.busy, t.frameValid)) =
      some (true, false, true) ∧
    State.reset.Inv ∧ (run1 0x00000000 []).map State.fault = some true ∧ (run1 0x00000004 []).map State.busy = some true ∧
    (run1 0x00000401 []).map State.txValid = some true ∧ (run1 0x00000402 []).map State.cksumValid = some true ∧
    (run1 0x000A0006 [0, 0xC0]).map State.readingValid = some true :=
  ⟨by decide, by decide, by decide, by decide, by decide, by decide, by decide, by decide⟩

/-- A block that has received a frame and holds every result, with a request on its port. -/
def full (c : Ctrl) : State :=
  { present c [] State.reset with
    rxFrame := #v[0xAA, 0, 0, 0, 0, 0, 0, 0, 0, 0], rxLen := 10, frameValid := true, txFrame := buildFrame 4 (lanesOf [])
    txHolds := true, txValid := true, cksumHolds := true, cksumValid := true, readingHolds := true, readingValid := true
    status := .ok, done := true }

theorem witness_FlagsChange_fall : (full 0x00000005).Inv ∧
    (after (full 0x00000005)).map (fun t => (t.done, t.frameValid)) = some (false, false) ∧
    (after (full 0x00000301)).map State.txValid = some false ∧
    (after (full 0x00000302)).map State.cksumValid = some false ∧
    (after (full 0x00000006)).map State.readingValid = some false := by decide

theorem witness_FlagsChange_reset : ∃ s : State, s.Inv ∧ s.fault = true ∧
    (after s).map (fun t => (t.done, t.fault)) = some (false, false) :=
  ⟨{ State.reset with
      fault := true, done := true, status := .illegalOp, pins := { pinsAtReset with rst := true }, agenda := [.reset 0] },
    by decide⟩

theorem witness_StatusWordFields : (full 0).Inv ∧ (full 0).rxLen = 10 ∧
    applyMove (.drive pinsAtReset) (full 0) = .next { full 0 with pins := pinsAtReset } := ⟨by decide, rfl, rfl⟩

/- Each register that can be without a value, both ways, and a read of each kind; right after reset ATTEMPTS has a value. -/
theorem witness_HostReadOfNoValueFaults :
    (¬ (1 : Fin 10).val < (inBody true [] 0).rxLen.toNat ∧ (0 : Fin 10).val < (inBody true [] 0).rxLen.toNat) ∧
    (State.reset.txHolds = false ∧ (full 0).txHolds = true) ∧ (State.reset.cksumHolds = false ∧ (full 0).cksumHolds = true) ∧
    (State.reset.readingHolds = false ∧ (full 0).readingHolds = true) ∧
    (full 0).readOut (.txFrame 18) = .ok 0xAB ∧ State.reset.readOut .pm10Raw = .error (.readNoValue .pm10Raw) ∧
    State.reset.readOut .attempts = .ok 0 := by decide

/- Two states that differ in every register that holds no value. -/
theorem witness_ValuelessRegistersAreNeverSeen : ∃ s t : State, s.Inv ∧ t.Inv ∧ SameHeld s t ∧ s ≠ t :=
  ⟨State.reset, { State.reset with
      curOp := 0xF, rxFrame := Vector.replicate 10 1, txFrame := Vector.replicate 19 1, cksumOut := 1, pm25Raw := 1
      pm10Raw := 1 }, by decide, by decide, by unfold SameHeld; decide, by decide⟩

theorem witness_ResetStepWritesResetValues : ∃ s t : State, s.pins.rst = true ∧ s.fsm = .bodyReq ∧
    (∀ lost, Move.answer (.bytes 9) ≠ .reset lost) ∧ applyMove (.answer (.bytes 9)) s = .next t :=
  ⟨{ inBody true body1 9 with pins := { pinsAtReset with rst := true } }, _, rfl, rfl, nofun, rfl⟩

theorem witness_StepKeepsInvariant : ∃ s t : State, s.Inv ∧ step s = .next t ∧ s.busy = true ∧ t.busy = false :=
  ⟨inBody true body1 9, _, by decide, rfl, by decide, by decide⟩

theorem witness_ParametersAreFixed : ∃ t, step (inBody true body1 9) = .next t := ⟨_, rfl⟩

/- A budget at both sides of the seventh bit, a step from a state outside the invariant whose counter wraps, and ATTEMPTS at
the budget. -/
theorem witness_AttemptsFitTheirRegister :
    (127 ≤ 127 ∧ 127 < ({ Config.defaults with scanBudget := 128 } : Params).scanBudget) ∧
    ((scanning 127 []).attempts < 2 ^ attemptsWidth (scanning 127 []).params ∧
      (after (scanning 127 [])).map State.attempts = some 0) ∧
    ({ State.reset with attempts := 128, params := { Config.defaults with scanBudget := 128 } } : State).Inv :=
  ⟨by decide, by decide, by decide⟩

/- Both parameters that are not at their defaults, and the least budget, in the middle of a body. -/
theorem witness_ResetMeetsInvariant : ∃ s : State, s.pins.rst = true ∧ 1 ≤ s.params.scanBudget ∧ s.params.scanBudget = 1 ∧
    s.params.strictChecksum = true ∧ s.params.allowAnyCmd = true ∧ s.fsm = .bodyReq :=
  ⟨{ inBody true body1 9 with
      params := { Config.defaults with scanBudget := 1, strictChecksum := true, allowAnyCmd := true }
      pins := { pinsAtReset with rst := true } }, by decide⟩

/- The six ends: OK of a FINDSTART and of a READFRAME, NO_SYNC, CANCELLED, both transport errors, SHORT_READ at both
bounds, CHECKSUM_MISMATCH. -/
theorem witness_EndOfScanningOperation_scan : (scanning 99 [0x55]).Inv ∧
    (after (scanning 99 [0x55])).map (fun t => (t.busy, t.status)) = some (false, .noSync) ∧
    (after { scanning 0 [0xAA] with curOp := 0x4 }).map State.status = some .ok ∧
    (after { scanning 0 [0x55] with curOp := 0x4, agenda := [.answer (.error 1)] }).map State.status =
      some .transportError ∧
    (after ((scanning 98 [0x55]).withCancel true)).map State.status = some .cancelled :=
  ⟨by decide, by decide, by decide, by decide, by decide⟩

theorem witness_EndOfScanningOperation_body : (inBody true body1 9).Inv ∧
    (after (inBody true body1 9)).map State.status = some .ok ∧
    (after (inBody true body1 8)).map (fun t => (t.status, t.rxLen)) = some (.shortRead, 9) ∧
    (after (inBody true body1 0)).map (fun t => (t.status, t.rxLen)) = some (.shortRead, 1) ∧
    (after (inBody true (body1.set 0 0) 9)).map State.status = some .checksumMismatch ∧
    (after { inBody true body1 9 with agenda := [.answer (.error 9)] }).map State.status = some .transportError :=
  ⟨by decide, by decide, by decide, by decide, by decide, by decide⟩

theorem witness_EndOfScanningOperation_not_reset : ¬(inBody true body1 9).resets := fun h => by cases h.2

theorem witness_AnswersAreTheAdmittedOnes : 9 ≤ 9 ∧ 9 ≤ (inBody true body1 9).pending.length := by decide

theorem witness_OutstandingReadFollowsFsm : (scanning 0 []).fsm = .scanReq ∧ (inBody true [] 0).fsm = .bodyReq := by decide

theorem witness_StatusCodes : Status.cancelled.code = Status.cancelled.code := rfl

theorem witness_AllowedRequestsKeepRunsSafe : (present 0x000C0801 [] State.reset).fault = false ∧
    (present 0x000C0801 [] State.reset).acceptsAny ∧
    requestAllowed State.reset.params ⟨0x000C0801, lanesOf []⟩ = true ∧
    (∀ r, (present 0x000C0801 [] State.reset).takeMove.1 ≠ .hostRead r) ∧
    (present 0x000D0801 [] State.reset).acceptsAny ∧
    requestAllowed State.reset.params ⟨0x000D0801, lanesOf []⟩ = false :=
  ⟨rfl, ⟨rfl, by decide⟩, by decide, nofun, ⟨rfl, by decide⟩, by decide⟩

theorem witness_OnlyHostReadsStop : ({ State.reset with agenda := [.hostRead (.rxFrame 0)] } : State).takeMove.1 =
    .hostRead (.rxFrame 0) ∧ State.reset.readOut (.rxFrame 0) = .error (.readNoValue (.rxFrame 0)) := by decide

end Sys2Proof.Tests
end

section
/-! PROOFS. The parameters and the request handshake (10_state.md R32, R33, R38). -/

namespace Sys2Proof.Machine

variable {s t : State} {m : Move}

/-! ## The parameters -/

/-- A move that answers a next state leaves the parameters. -/
theorem applyMove_params (h : applyMove m s = .next t) : t.params = s.params := by
  obtain rfl | ⟨-, -, i, -, hi⟩ | ⟨-, -, -, rfl⟩ | ⟨a, -, -, -, rfl⟩ | ⟨a, -, -, -, rfl⟩ | ⟨-, -, -, rfl⟩ |
    ⟨lost, -, -, rfl⟩ | ⟨bs, -, rfl⟩ | ⟨p, -, rfl⟩ := applyMove_cases h
  case inr.inl =>
    obtain ⟨u, hu, -, -, hparams, -⟩ := exec_next i s
    have htu : t = u := next_eq_iff.1 (hi.symm.trans hu)
    rw [htu, hparams]
  all_goals simp

/-- Settles O50: taking a move changes only the scheduling data, and no move writes the parameters. -/
theorem parametersAreFixed : Obligations.ParametersAreFixed := by
  intro s t h
  obtain ⟨ag, dr, -, hstep⟩ := step_eq s
  rw [hstep] at h
  have hparams := applyMove_params h
  exact hparams

/-! ## The request handshake -/

/-- IDLE is the only FSM state with encoding 0. -/
theorem FsmState.code_eq_zero_iff (f : FsmState) : f.code = 0 ↔ f = .idle := by
  cases f <;> simp [FsmState.code]

/-- REQ_READY as R33 gives it. -/
theorem reqReady_iff (s : State) : s.reqReady = true ↔ s.fsm = .idle ∧ s.fault = false := by
  simp [State.reqReady]

/-- An accept needs both sides of the handshake. -/
theorem canAccept_eq_false (h : s.reqReady = false ∨ s.pins.reqValid = false) : s.canAccept = false := by
  obtain h | h := h <;> simp [State.canAccept, h]

/-- An accept that is not enabled changes nothing. -/
theorem applyMove_accept_of_not_canAccept (h : s.canAccept = false) : applyMove .accept s = .next s := by
  simp [applyMove, h]

/-- Settles O22: IDLE is the state encoded 0, and without both sides of the handshake the accept is not enabled. -/
theorem requestWaitsWhenNotReady : Obligations.RequestWaitsWhenNotReady := by
  intro s
  constructor
  · rw [FsmState.code_eq_zero_iff]
    exact reqReady_iff s
  · intro h
    exact applyMove_accept_of_not_canAccept (canAccept_eq_false h)

end Sys2Proof.Machine
end

section
/-! PROOFS. The op code table, illegal control words and the pseudo-instructions (30_encoding.md R72, R73, R75, R91). -/

namespace Sys2Proof

variable (c : Ctrl) (l : Lanes)

/-! ## The op code table -/

/-- A legal word, masked as R72 masks it, is one of the table's six patterns. -/
theorem mask_mem_patterns (hlow : ctrlReservedLow c = 0) (hhigh : ctrlReservedHigh c = 0)
    (hop : ctrlOp c ∈ [1#4, 2#4, 3#4, 4#4, 5#4, 6#4]) : c &&& 0xFF0000FF ∈ [1#32, 2#32, 3#32, 4#32, 5#32, 6#32] := by
  rw [(mask_eq_iff c (ctrlOp c)).2 ⟨hlow, hhigh, rfl⟩]
  exact List.mem_map_of_mem (f := BitVec.setWidth 32) hop

/-- A word with none of the six patterns is rejected. -/
theorem decode_error_of_mask (h : c &&& 0xFF0000FF ∉ [1#32, 2#32, 3#32, 4#32, 5#32, 6#32]) :
    ∃ e, decode c l = .error e := by
  obtain ⟨-, herr⟩ | ⟨hlow, hhigh, hop, -⟩ := decode_cases c l
  · exact herr
  · exact absurd (mask_mem_patterns c hlow hhigh hop) h

/-- Settles O3: each pattern leaves the op code alone to decide, and a legal word has one of the six. -/
theorem opcodeSelectsRequest : Obligations.OpcodeSelectsRequest := by
  intro c l
  exact ⟨Machine.decode_of_pattern 1 c l, Machine.decode_of_pattern 2 c l, Machine.decode_of_pattern 3 c l,
    Machine.decode_of_pattern 4 c l, Machine.decode_of_pattern 5 c l, Machine.decode_of_pattern 6 c l,
    decode_error_of_mask c l⟩

/-! ## Illegal control words -/

/-- The exact condition of R75, in the control word's fields. -/
theorem decode_error_iff : (∃ e, decode c l = .error e) ↔
    ctrlOp c ∉ [1#4, 2#4, 3#4, 4#4, 5#4, 6#4] ∨ ctrlReservedLow c ≠ 0 ∨ ctrlReservedHigh c ≠ 0 := by
  obtain ⟨hbad, herr⟩ | ⟨hlow, hhigh, hop, i, hi, -⟩ := decode_cases c l
  · exact iff_of_true herr (by tauto)
  · exact iff_of_false (by simp [hi]) (by tauto)

namespace Machine

variable {s : State}

/-- An enabled accept of a word the decoder rejects completes with ILLEGAL_OP. -/
theorem applyMove_accept_illegal (hc : s.canAccept = true) (he : ∃ e, decode s.pins.reqCtrl s.pins.reqPayload = .error e) :
    applyMove .accept s = .next ((s.beginOp (ctrlOp s.pins.reqCtrl)).complete .illegalOp) := by
  obtain ⟨e, he⟩ := he
  simp [applyMove, hc, acceptRequest, he]

/-- What that completion writes, in an idle block: CUR_OP, STATUS, DONE and FAULT. -/
theorem beginOp_complete_illegalOp (op : BitVec 4) (hidle : s.fsm = .idle) :
    (s.beginOp op).complete .illegalOp =
      { s with curOp := op, status := .illegalOp, done := true, fault := true } := by
  simp [State.complete, State.beginOp, Status.fatal, hidle]

/-- Settles O4: the decoder rejects exactly R75's words, and an accept finds the block idle. -/
theorem illegalWordCompletesFatal : Obligations.IllegalWordCompletesFatal := by
  intro s
  refine ⟨decode_error_iff _ _, fun hc he => ?_⟩
  obtain ⟨-, -, hidle, -⟩ := (canAccept_iff s).1 hc
  rw [applyMove_accept_illegal hc he, beginOp_complete_illegalOp _ hidle]
  rfl

/-! ## The operand view -/

/-- Settles O8: the element rule of the operand view, for the lanes on the port. -/
theorem operandViewIsZeroPadded : Obligations.OperandViewIsZeroPadded := by
  intro plen l i
  simpa using opnd_getElem plen l.toList i.val i.isLt

end Machine

/-! ## The pseudo-instructions -/

/-- The control word of an ENCODE source line that is not refused. -/
theorem assemble_encode_ctrl (cmd : CmdOperand) {bs : List Byte} (hbs : bs.length ≤ 255) :
    (assemble (.encode cmd bs)).map Request.ctrl = some (packCtrl 1 cmd.value (BitVec.ofNat 8 bs.length)) := by
  simp [assemble, assembleList, hbs]

/-- A source form that assembles as an ENCODE of `k` bytes has that ENCODE's control word. -/
theorem assemble_eq_encode_and_ctrl {a : Asm} {cmd : CmdOperand} {bs : List Byte} {k : Nat} {w : Ctrl}
    (hexp : assemble a = assemble (.encode cmd bs)) (hlen : bs.length = k) (hk : k ≤ 255)
    (hw : packCtrl 1 cmd.value (BitVec.ofNat 8 k) = w) :
    assemble a = assemble (.encode cmd bs) ∧ (assemble a).map Request.ctrl = some w := by
  subst hlen hw
  exact ⟨hexp, hexp ▸ assemble_encode_ctrl cmd hk⟩

theorem assemble_query : assemble .query = assemble (.encode (.name .queryData) []) := rfl

theorem assemble_setSleep (b : Bool) : assemble (.setSleep b) = assemble (.encode (.name .sleep) [0x01, sleepByte b]) := rfl

theorem assemble_setMode {m : Nat} (h : m ≤ 255) :
    assemble (.setMode m) = assemble (.encode (.name .mode) [0x01, BitVec.ofNat 8 m]) := if_pos h

theorem assemble_setPeriod {p : Nat} (h : p ≤ 255) :
    assemble (.setPeriod p) = assemble (.encode (.name .workingPeriod) [0x01, BitVec.ofNat 8 p]) := if_pos h

theorem assemble_setMode_refused {m : Nat} (h : 255 < m) : assemble (.setMode m) = none := if_neg (by omega)

theorem assemble_setPeriod_refused {p : Nat} (h : 255 < p) : assemble (.setPeriod p) = none := if_neg (by omega)

/-- Settles O6: each row of R91 is its ENCODE expansion, whose control word the packing gives. -/
theorem pseudoInstructionsExpand : Obligations.PseudoInstructionsExpand :=
  ⟨assemble_eq_encode_and_ctrl assemble_query rfl (by decide) (by decide),
    fun _ h => assemble_eq_encode_and_ctrl (k := 2) (assemble_setMode h) rfl (by decide) (by decide),
    assemble_eq_encode_and_ctrl (assemble_setSleep true) rfl (by decide) (by decide),
    assemble_eq_encode_and_ctrl (assemble_setSleep false) rfl (by decide) (by decide),
    fun _ h => assemble_eq_encode_and_ctrl (k := 2) (assemble_setPeriod h) rfl (by decide) (by decide),
    fun _ h => ⟨assemble_setMode_refused h, assemble_setPeriod_refused h⟩⟩

end Sys2Proof
end

section
/-! PROOFS. The command checksum, and the requests ENCODE, CKSUM.C and CKSUM.R (40_frame_codec.md R101 to R108). -/

namespace Sys2Proof.Machine

variable {s t : State} {c cmd plen : Byte} {lanes : List Byte}

/-! ## Sums of bytes -/

@[simp] theorem byteSum_nil : byteSum [] = 0 := rfl

@[simp] theorem byteSum_cons (b : Byte) (bs : List Byte) : byteSum (b :: bs) = b.toNat + byteSum bs := by
  simp [byteSum]

@[simp] theorem byteSum_append (as bs : List Byte) : byteSum (as ++ bs) = byteSum as + byteSum bs := by
  simp [byteSum]

theorem byteSum_le (bs : List Byte) : byteSum bs ≤ 255 * bs.length := by
  induction bs with
  | nil => simp
  | cons b bs ih =>
    have hb := b.isLt
    rw [byteSum_cons, List.length_cons]
    omega

/-- Twelve bytes sum to at most 12 * 255 (R102). -/
theorem byteSum_lanes_le (p : Lanes) : byteSum p.toList ≤ 3060 := by
  simpa using byteSum_le p.toList

/-- Adding bytes with 8-bit wrap is the integer sum modulo 256. -/
theorem foldl_add_eq_ofNat_byteSum (bs : List Byte) (a : Byte) :
    bs.foldl (· + ·) a = a + BitVec.ofNat 8 (byteSum bs) := by
  induction bs generalizing a with
  | nil => simp
  | cons b bs ih => simp [ih, BitVec.ofNat_add, BitVec.add_assoc]

/-! ## The command checksum -/

/-- Bytes 2..16 of a command frame: the command, the payload and the two identifier bytes. -/
theorem buildFrame_bytes_two_to_sixteen (c : Byte) (p : Lanes) :
    ((buildFrame c p).toList.drop 2).take 15 = c :: (p.toList ++ [0xFF, 0xFF]) := by
  rw [lanes_toList]
  rfl

/-- Settles O9: the two identifier bytes add 510, which is -2 modulo 256. -/
theorem commandChecksumIsFrameSum : Obligations.CommandChecksumIsFrameSum := by
  intro c p
  have hsum : byteSum (c :: (p.toList ++ [0xFF, 0xFF])) = c.toNat + (byteSum p.toList + 510) := by simp
  have hck := cmdChecksum_toInt c p
  rw [buildFrame_bytes_two_to_sixteen, hsum]
  omega

/-- The checksum of a known command and payload sum. -/
theorem cmdChecksum_of_eq {p : Lanes} {k : Byte} {n : Nat} (hc : c = k) (hn : byteSum p.toList = n) :
    cmdChecksum c p = BitVec.ofInt 8 ((n : Int) + k.toNat - 2) := by
  rw [cmdChecksum, hc, hn]

/-- 8-bit wrapping arithmetic, with -2 as 0xFE, gives the checksum (R102). -/
theorem cmdChecksum_eq_wrapping_sum (c : Byte) (p : Lanes) :
    cmdChecksum c p = p.toList.foldl (· + ·) 0 + c + 0xFE := by
  have hck := cmdChecksum_toInt c p
  rw [foldl_add_eq_ofNat_byteSum]
  apply BitVec.eq_of_toNat_eq
  simp [BitVec.toNat_add]
  omega

theorem two_le_of_mem_cmdCodes : ∀ c ∈ cmdCodes, 2 ≤ c.toNat := by decide

/-- The argument of the checksum is negative for exactly the three cases of R102. -/
theorem cmdChecksum_arg_neg_iff (c : Byte) (n : Nat) :
    (n : Int) + c.toNat - 2 < 0 ↔ (c = 0 ∧ n ≤ 1) ∨ (c = 1 ∧ n = 0) := by
  have h0 : c = 0 ↔ c.toNat = 0 := BitVec.toNat_inj.symm
  have h1 : c = 1 ↔ c.toNat = 1 := BitVec.toNat_inj.symm
  rw [h0, h1]
  omega

/-- CmdOK as R107 writes it. -/
theorem cmdOK_iff (p : Params) (c : Byte) : cmdOK p c = true ↔ c ∈ cmdCodes ∨ p.allowAnyCmd = true := by
  simp [cmdOK]

/-- Settles O10: the bounds come from the sum's, and every listed code is at least 2. -/
theorem commandChecksumRange : Obligations.CommandChecksumRange := by
  intro c p n x
  have hn : n ≤ 3060 := byteSum_lanes_le p
  have hc := c.isLt
  have hcode : c ∈ cmdCodes → 0 ≤ x := by
    intro hmem
    have htwo := two_le_of_mem_cmdCodes c hmem
    omega
  have hallow : ∀ q : Params, x < 0 → cmdOK q c = true → q.allowAnyCmd = true := by
    intro q hx hok
    obtain hmem | hany := (cmdOK_iff q c).1 hok
    · exact absurd (hcode hmem) (by omega)
    · exact hany
  exact ⟨hn, by omega, by omega, cmdChecksum_arg_neg_iff c n, cmdChecksum_of_eq, cmdChecksum_of_eq, cmdChecksum_of_eq,
    hallow, hcode, cmdChecksum_eq_wrapping_sum c p⟩

/-! ## The accept steps of ENCODE, CKSUM.C and CKSUM.R -/

/-- Every failed check of a command request is fatal (60_exceptions.md R201). -/
theorem commandStatus_fatal {p : Params} (h : commandStatus p cmd plen ≠ .ok) :
    (commandStatus p cmd plen).fatal = true := by
  obtain ⟨hst, -⟩ | ⟨hst, -⟩ | ⟨hst, -⟩ := commandStatus_cases p cmd plen
  · exact absurd hst h
  · rw [hst]; rfl
  · rw [hst]; rfl

/-- An ENCODE that passes both checks. -/
theorem exec_encode_ok (h : commandStatus s.params cmd plen = .ok) :
    exec (.encode cmd plen lanes) s =
      .next { s with
        curOp := 1, status := .ok, done := true, fsm := .idle, txValid := true, txHolds := true
        txFrame := buildFrame cmd (opnd plen lanes) } := by
  simp [exec, execEncode, h, State.complete, State.putTx, State.beginOp, Status.fatal]

/-- An ENCODE that fails a check. -/
theorem exec_encode_failed {st : Status} (h : commandStatus s.params cmd plen = st) (hne : st ≠ .ok) :
    exec (.encode cmd plen lanes) s =
      .next { s with curOp := 1, status := st, done := true, fault := true, fsm := .idle, txValid := false } := by
  subst h
  have hfatal := commandStatus_fatal hne
  simp [exec, execEncode, State.complete, State.failTx, State.beginOp, hfatal]

/-- A CKSUM.C that passes both checks. -/
theorem exec_cksumC_ok (h : commandStatus s.params cmd plen = .ok) :
    exec (.cksumC cmd plen lanes) s =
      .next { s with
        curOp := 2, status := .ok, done := true, fsm := .idle, cksumValid := true, cksumHolds := true
        cksumOut := cmdChecksum cmd (opnd plen lanes) } := by
  simp [exec, execCksumC, h, State.complete, State.putCksum, State.beginOp, Status.fatal]

/-- A CKSUM.C that fails a check. -/
theorem exec_cksumC_failed {st : Status} (h : commandStatus s.params cmd plen = st) (hne : st ≠ .ok) :
    exec (.cksumC cmd plen lanes) s =
      .next { s with curOp := 2, status := st, done := true, fault := true, fsm := .idle, cksumValid := false } := by
  subst h
  have hfatal := commandStatus_fatal hne
  simp [exec, execCksumC, State.complete, State.failCksum, State.beginOp, hfatal]

/-- A CKSUM.R, which has no check. -/
theorem exec_cksumR :
    exec (.cksumR cmd plen lanes) s =
      .next { s with
        curOp := 3, status := .ok, done := true, fsm := .idle, cksumValid := true, cksumHolds := true
        cksumOut := respChecksumOpnd (opnd plen lanes) } := by
  simp [exec, execCksumR, State.complete, State.putCksum, State.beginOp, Status.fatal]

/-- Settles O11: a command outside the list, without ALLOW_ANY_CMD, ends both requests with INVALID_COMMAND. -/
theorem invalidCommandRefused : Obligations.InvalidCommandRefused := by
  intro cmd plen lanes s
  have hiff := cmdOK_iff s.params cmd
  refine ⟨hiff, fun hlen hcmd hany => ?_⟩
  have hbad : cmdOK s.params cmd = false := by
    rw [Bool.eq_false_iff, ne_eq, hiff]
    rintro (hmem | hallow)
    · exact hcmd hmem
    · simp [hany] at hallow
  have hst := commandStatus_bad hlen hbad
  exact ⟨exec_encode_failed hst nofun, exec_cksumC_failed hst nofun⟩

/-! ## The frame and the checksum of the operand view -/

/-- The command checksum of a request, in the lanes below PLEN. -/
theorem cmdChecksum_opnd_toInt (cmd plen : Byte) (lanes : List Byte) :
    ((cmdChecksum cmd (opnd plen lanes)).toNat : Int) =
      ((((List.range 12).map fun i => (if i < plen.toNat then lanes.getD i 0 else 0 : Byte).toNat).sum : Int) +
        cmd.toNat - 2) % 256 := by
  rw [cmdChecksum_toInt, byteSum_opnd]

/-- The frame of a request, in the zero-padded lanes `p`. -/
theorem buildFrame_opnd (cmd : Byte) {p : Nat → Byte}
    (hp : ∀ i, p i = if i < plen.toNat then lanes.getD i 0 else 0) :
    buildFrame cmd (opnd plen lanes) =
      #v[0xAA, 0xB4, cmd, p 0, p 1, p 2, p 3, p 4, p 5, p 6, p 7, p 8, p 9, p 10, p 11,
        0xFF, 0xFF, cmdChecksum cmd (opnd plen lanes), 0xAB] := by
  simp only [buildFrame, opnd_getElem, hp]
  rfl

/-- Settles O12: one next state for each of the three ends of a command request. -/
theorem encodeBuildsFrame : Obligations.EncodeBuildsFrame := by
  refine ⟨decode_of_pattern 1, ?_⟩
  intro cmd plen lanes s p
  refine ⟨fun hlen hcmd => ?_, fun hlen => ?_, fun hlen hcmd => ?_⟩
  · refine ⟨cmdChecksum cmd (opnd plen lanes), cmdChecksum_opnd_toInt cmd plen lanes, ?_⟩
    rw [exec_encode_ok (commandStatus_ok hlen hcmd), buildFrame_opnd cmd (p := p) fun _ => rfl]
  · exact exec_encode_failed (commandStatus_long hlen) nofun
  · exact exec_encode_failed (commandStatus_bad hlen hcmd) nofun

/-- Settles O14: the three ends, and byte 17 of the frame ENCODE builds is the checksum. -/
theorem cksumCGivesCommandChecksum : Obligations.CksumCGivesCommandChecksum := by
  refine ⟨decode_of_pattern 2, ?_⟩
  intro cmd plen lanes s p
  refine ⟨fun hlen hcmd => ?_, fun hlen => ?_, fun hlen hcmd => ?_⟩
  · have hok := commandStatus_ok hlen hcmd
    exact ⟨cmdChecksum cmd (opnd plen lanes), cmdChecksum_opnd_toInt cmd plen lanes, exec_cksumC_ok hok,
      _, exec_encode_ok hok, rfl⟩
  · exact exec_cksumC_failed (commandStatus_long hlen) nofun
  · exact exec_cksumC_failed (commandStatus_bad hlen hcmd) nofun

/-- What an ENCODE leaves in STATUS, and in TX_FRAME if it ends OK. -/
theorem exec_encode_result (h : exec (.encode cmd plen lanes) s = .next t) :
    t.status = commandStatus s.params cmd plen ∧ (t.status = .ok → t.txFrame = buildFrame cmd (opnd plen lanes)) := by
  by_cases hst : commandStatus s.params cmd plen = .ok
  · rw [exec_encode_ok hst, next_eq_iff] at h
    subst h
    exact ⟨hst.symm, fun _ => rfl⟩
  · rw [exec_encode_failed rfl hst, next_eq_iff] at h
    subst h
    exact ⟨rfl, fun hok => absurd hok hst⟩

/-- Settles O13: an ENCODE that ends OK leaves a built frame, and PLEN is checked first. -/
theorem encodedFrameProperties : Obligations.EncodedFrameProperties := by
  intro cmd plen lanes s t h
  obtain ⟨hstatus, hframe⟩ := exec_encode_result h
  refine ⟨fun hok => ?_, fun hlen => hstatus.trans (commandStatus_long hlen)⟩
  obtain ⟨h0, h1, h2, h15, h16, h18, h17, hpayload⟩ := buildFrame_bytes cmd (opnd plen lanes)
  rw [hframe hok]
  refine ⟨by simp, h0, h1, h2, h15, h16, h18, ?_⟩
  rw [h17, hpayload]
  exact cmdChecksum_toInt cmd (opnd plen lanes)

/-- The response checksum of the operand view, in its bytes 1..7. -/
theorem respChecksumOpnd_toNat (f : Lanes) : (respChecksumOpnd f).toNat =
    (f[1].toNat + f[2].toNat + f[3].toNat + f[4].toNat + f[5].toNat + f[6].toNat + f[7].toNat) % 256 := by
  simp [respChecksumOpnd, sumOneToSeven, add_assoc]

/-- One byte of the operand view, as a number. -/
theorem opnd_getElem_toNat (plen : Byte) (lanes : List Byte) (i : Nat) (h : i < 12) :
    (opnd plen lanes)[i].toNat = if i < plen.toNat then (lanes.getD i 0).toNat else 0 := by
  rw [opnd_getElem, apply_ite BitVec.toNat]
  rfl

/-- Settles O15: CKSUM.R has one end, with the sum of the operand view's bytes 1..7. -/
theorem cksumRGivesResponseChecksum : Obligations.CksumRGivesResponseChecksum := by
  refine ⟨decode_of_pattern 3, ?_⟩
  intro cmd plen lanes s p
  refine ⟨respChecksumOpnd (opnd plen lanes), ?_, exec_cksumR⟩
  simp only [respChecksumOpnd_toNat, opnd_getElem_toNat, p]

end Sys2Proof.Machine
end

section
/-! PROOFS. The start of a scan at the accept of FINDSTART and READFRAME (41_stream_reader.md R132). -/

namespace Sys2Proof.Machine

variable {s : State} {cmd plen : Byte} {lanes : List Byte}

/-- In SCAN_REQ the outstanding read is `StreamRead(1)` (10_state.md R37). -/
theorem rdReq_of_scanReq (h : s.fsm = .scanReq) : s.rdReq = some 1 := by
  simp [State.rdReq, h]

/-- A FINDSTART's accept step is ScanStart(), whatever its ignored fields and CANCEL hold. -/
theorem exec_findstart : exec (.findstart cmd plen lanes) s = .next (s.beginOp 4).scanStart := rfl

/-- A READFRAME's accept step is ScanStart(), whatever its ignored fields and CANCEL hold. -/
theorem exec_readframe : exec (.readframe cmd plen lanes) s = .next (s.beginOp 5).scanStart := rfl

/-- What ScanStart() at an accept writes; RX_FRAME is not among it. -/
theorem beginOp_scanStart (s : State) (op : BitVec 4) :
    (s.beginOp op).scanStart =
      { s with
        curOp := op, status := .none, done := false
        attempts := 0, rxLen := 0, frameValid := false, fsm := .scanReq } := rfl

/-- Settles O19: both requests run ScanStart(), which leaves the block in SCAN_REQ. -/
theorem scanStartsAtAccept : Obligations.ScanStartsAtAccept := by
  intro cmd plen lanes s
  have hread (op : BitVec 4) : (s.beginOp op).scanStart.rdReq = some 1 := rdReq_of_scanReq (State.scanStart_fsm _)
  exact ⟨⟨_, exec_findstart, hread 4, beginOp_scanStart s 4⟩, ⟨_, exec_readframe, hread 5, beginOp_scanStart s 5⟩⟩

end Sys2Proof.Machine
end

section
/-! PROOFS. The response decoder: DECODE, the reading, and the body's read-answer step (42_response_decoder.md R161 to R173). -/

namespace Sys2Proof.Machine

variable {s t : State} {cmd plen : Byte} {lanes : List Byte} {f : Lanes}

/-! ## The status of a DECODE -/

/-- A DECODE passes both checks exactly when R173 says so. -/
theorem decodeStatus_eq_ok_iff : decodeStatus plen f = .ok ↔ 10 ≤ plen.toNat ∧ f[1] = queryAck := by
  obtain ⟨h, hlen, hack⟩ | ⟨h, hlen⟩ | ⟨h, -, hack⟩ := decodeStatus_cases plen f
  · simp [h, hlen, hack]
  · simp [h, hlen]
  · simp [h, hack]

theorem decodeStatus_short (hlen : plen.toNat < 10) : decodeStatus plen f = .shortFrame := if_pos hlen

theorem decodeStatus_notQueryAck (hlen : 10 ≤ plen.toNat) (hack : f[1] ≠ queryAck) :
    decodeStatus plen f = .notQueryAck := by
  obtain ⟨-, -, h⟩ | ⟨-, h⟩ | ⟨h, -⟩ := decodeStatus_cases plen f
  · exact absurd h hack
  · omega
  · exact h

/-- No end of a DECODE is fatal (60_exceptions.md R201). -/
theorem decodeStatus_not_fatal (plen : Byte) (f : Lanes) : (decodeStatus plen f).fatal = false := by
  obtain ⟨h, -⟩ | ⟨h, -⟩ | ⟨h, -⟩ := decodeStatus_cases plen f <;> rw [h] <;> rfl

/-! ## The accept step of DECODE -/

/-- A completion with a status that is not fatal leaves FAULT (60_exceptions.md R203). -/
theorem complete_of_not_fatal {st : Status} (h : st.fatal = false) :
    s.complete st = { s with status := st, done := true, fsm := .idle } := by
  simp [State.complete, h]

/-- A DECODE that passes both checks. -/
theorem exec_decode_ok (h : decodeStatus plen (opnd plen lanes) = .ok) :
    exec (.decode cmd plen lanes) s =
      .next { s with
        curOp := 6, status := .ok, done := true, fsm := .idle
        pm25Raw := pm25Of (opnd plen lanes), pm10Raw := pm10Of (opnd plen lanes)
        readingValid := true, readingHolds := true } := by
  simp [exec, execDecode, h, State.complete, State.putReading, State.beginOp, Status.fatal]

/-- A DECODE that fails a check. -/
theorem exec_decode_failed {st : Status} (h : decodeStatus plen (opnd plen lanes) = st) (hne : st ≠ .ok) :
    exec (.decode cmd plen lanes) s =
      .next { s with curOp := 6, status := st, done := true, fsm := .idle, readingValid := false } := by
  subst h
  simp [exec, execDecode, complete_of_not_fatal, decodeStatus_not_fatal, State.failReading, State.beginOp]

/-- A byte of the operand view below PLEN is the lane. -/
theorem opnd_getElem_of_lt {i : Nat} (h : i < 12) (hlen : i < plen.toNat) :
    (opnd plen lanes)[i] = lanes.getD i 0 := by
  rw [opnd_getElem, if_pos hlen]

/-- Two bytes fit a raw reading without loss (R171). -/
theorem rawReading_toNat (low high : Byte) : (rawReading low high).toNat = high.toNat * 256 + low.toNat := by
  have hlow := low.isLt
  have hhigh := high.isLt
  rw [rawReading, BitVec.toNat_ofNat, Nat.mod_eq_of_lt (by omega)]

/-- Settles O16: one next state for each status, and with PLEN of 10 or more bytes 1..5 of the view are lanes. -/
theorem decodeYieldsRawValues : Obligations.DecodeYieldsRawValues := by
  refine ⟨decode_of_pattern 6, ?_⟩
  intro cmd plen lanes s b
  have hbyte (hlen : 10 ≤ plen.toNat) (i : Nat) (hi : i < 10) : (opnd plen lanes)[i] = b i :=
    opnd_getElem_of_lt (by omega) (by omega)
  refine ⟨fun hlen hack => ?_, fun hlen => ?_, fun hlen hack => ?_⟩
  · have hok : decodeStatus plen (opnd plen lanes) = .ok :=
      decodeStatus_eq_ok_iff.2 ⟨hlen, (hbyte hlen 1 (by decide)).trans hack⟩
    refine ⟨pm25Of (opnd plen lanes), pm10Of (opnd plen lanes), ?_, ?_, exec_decode_ok hok⟩
    · rw [pm25Of, rawReading_toNat, hbyte hlen 2 (by decide), hbyte hlen 3 (by decide)]
    · rw [pm10Of, rawReading_toNat, hbyte hlen 4 (by decide), hbyte hlen 5 (by decide)]
  · exact exec_decode_failed (decodeStatus_short hlen) nofun
  · have hview : (opnd plen lanes)[1] ≠ queryAck := by rwa [hbyte hlen 1 (by decide)]
    exact exec_decode_failed (decodeStatus_notQueryAck hlen hview) nofun

/-- What a DECODE leaves in READING_VALID, and in the PM registers if it yields a reading. -/
theorem exec_decode_result (h : exec (.decode cmd plen lanes) s = .next t) :
    (t.readingValid = true ↔ decodeStatus plen (opnd plen lanes) = .ok) ∧
    (t.readingValid = true → t.pm25Raw = pm25Of (opnd plen lanes) ∧ t.pm10Raw = pm10Of (opnd plen lanes)) := by
  by_cases hst : decodeStatus plen (opnd plen lanes) = .ok
  · rw [exec_decode_ok hst, next_eq_iff] at h
    subst h
    simp [hst]
  · rw [exec_decode_failed rfl hst, next_eq_iff] at h
    subst h
    simp [hst]

/-! ## The reading -/

/-- The reading the registers hold while READING_VALID = 1. -/
theorem reading_of_valid (h : s.readingValid = true) :
    s.reading = some ⟨microgramsPerCubicMetre s.pm25Raw, microgramsPerCubicMetre s.pm10Raw⟩ := if_pos h

/-- Settles O17: READING_VALID follows the status, and the raw values read only bytes 2..5 of the view. -/
theorem decodeReadingExactlyWhen : Obligations.DecodeReadingExactlyWhen := by
  intro cmd plen lanes s t h
  obtain ⟨hvalid, hraw⟩ := exec_decode_result h
  refine ⟨hvalid.trans decodeStatus_eq_ok_iff, ?_⟩
  intro cmd' plen' lanes' s' t' h' hv hv' hbytes
  obtain ⟨h25, h10⟩ := hraw hv
  obtain ⟨h25', h10'⟩ := (exec_decode_result h').2 hv'
  have e25 : t.pm25Raw = t'.pm25Raw := by
    rw [h25, h25']
    exact congrArg₂ rawReading (hbytes 2 (by decide) (by decide)) (hbytes 3 (by decide) (by decide))
  have e10 : t.pm10Raw = t'.pm10Raw := by
    rw [h10, h10']
    exact congrArg₂ rawReading (hbytes 4 (by decide) (by decide)) (hbytes 5 (by decide) (by decide))
  exact ⟨e25, e10, by rw [reading_of_valid hv, reading_of_valid hv', e25, e10]⟩

/-- Ten times a value is its raw register, with no rounding. -/
theorem microgramsPerCubicMetre_mul_ten (raw : Half) : microgramsPerCubicMetre raw * 10 = raw.toNat :=
  div_mul_cancel₀ _ (by norm_num)

/-- The values of a reading are the tenths of the 16-bit numbers. -/
theorem exists_microgramsPerCubicMetre_eq_iff (q : ℚ) :
    (∃ raw : Half, microgramsPerCubicMetre raw = q) ↔ ∃ n : Nat, n ≤ 65535 ∧ q = (n : ℚ) / 10 := by
  constructor
  · rintro ⟨raw, rfl⟩
    exact ⟨raw.toNat, Nat.le_of_lt_succ raw.isLt, rfl⟩
  · rintro ⟨n, hn, rfl⟩
    refine ⟨BitVec.ofNat 16 n, ?_⟩
    rw [microgramsPerCubicMetre, BitVec.toNat_ofNat, Nat.mod_eq_of_lt (by omega)]

/-- Settles O18: the reading divides both raw registers by 10, in the rationals. -/
theorem readingIsExactRational : Obligations.ReadingIsExactRational :=
  ⟨fun _ h => ⟨_, reading_of_valid h, microgramsPerCubicMetre_mul_ten _, microgramsPerCubicMetre_mul_ten _⟩,
    exists_microgramsPerCubicMetre_eq_iff⟩

/-! ## The body's read-answer step -/

/-- The response checksum of a received frame, in its bytes 1..7. -/
theorem respChecksum_toNat (f : RespFrame) : (respChecksum f).toNat =
    (f[1].toNat + f[2].toNat + f[3].toNat + f[4].toNat + f[5].toNat + f[6].toNat + f[7].toNat) % 256 := by
  simp [respChecksum, sumOneToSeven, add_assoc]

/-- The strict check as R163 writes it. -/
theorem checksumBad_iff (s : State) : s.checksumBad = true ↔ s.params.strictChecksum = true ∧
    s.rxFrame[8].toNat ≠ (s.rxFrame[1].toNat + s.rxFrame[2].toNat + s.rxFrame[3].toNat + s.rxFrame[4].toNat +
      s.rxFrame[5].toNat + s.rxFrame[6].toNat + s.rxFrame[7].toNat) % 256 := by
  rw [← respChecksum_toNat, ne_comm, ne_eq, BitVec.toNat_inj]
  simp [State.checksumBad]

/-- RX_FRAME after `k` of the pending bytes: elements 1..k are theirs, the rest stays. -/
theorem withBody_take_getElem (f : RespFrame) (bs : List Byte) {k : Nat} (hk : k ≤ bs.length) (i : Fin 10) :
    (withBody f (bs.take k))[i] = if 1 ≤ i.val ∧ i.val ≤ k then bs.getD (i.val - 1) 0 else f[i] := by
  rw [Fin.getElem_fin, withBody_getElem, Fin.getElem_fin]
  by_cases h0 : i.val = 0
  · simp [h0]
  by_cases hi : i.val ≤ k
  · have hb : i.val - 1 < bs.length := by omega
    have ht : i.val - 1 < k := by omega
    simp [h0, hi, hb, ht, Nat.one_le_iff_ne_zero]
  · have ht : ¬ i.val - 1 < k := by omega
    simp [h0, hi, ht]

/-- A delivery of bytes, by the number of bytes it brings. -/
theorem deliver_bytes_eq {n len k : Nat} (hk : k = min (min len n) s.pending.length) :
    s.deliver n (.bytes len) = (.bytes (s.pending.take k), { s with pending := s.pending.drop k }) := by
  rw [deliver_bytes, hk, ← List.take_eq_take_min, ← List.drop_eq_drop_min]

/-- The three ends of a body of `k` bytes: each stores the body, and only OK sets FRAME_VALID. -/
theorem bodyAnswer_bytes {bs : List Byte} {k : Nat} {st : Status} (hk : bs.length = k)
    (hst : st = if k < 9 then .shortRead
      else if (s.storeBody bs).checksumBad = true then .checksumMismatch else .ok) :
    s.bodyAnswer (.bytes bs) =
      { s with
        rxFrame := withBody s.rxFrame bs, rxLen := BitVec.ofNat 4 (1 + k), status := st, done := true
        fsm := .idle, frameValid := if st = .ok then true else s.frameValid } := by
  subst hk
  obtain ⟨h, -⟩ | ⟨_, ⟨⟩, hlen, h⟩ | ⟨_, ⟨⟩, hlen, hck, h⟩ | ⟨_, ⟨⟩, hlen, hck, h⟩ := bodyAnswer_cases (.bytes bs) s
  · cases h
  · rw [if_pos hlen] at hst
    rw [h, hst, complete_of_not_fatal rfl]
    rfl
  · rw [if_neg (not_lt.2 hlen), if_pos hck] at hst
    rw [h, hst, complete_of_not_fatal rfl]
    rfl
  · rw [if_neg (not_lt.2 hlen), hck] at hst
    rw [h, hst, complete_of_not_fatal rfl]
    rfl

/-- The answer to the body's read is applied in one step. -/
theorem applyMove_answer_bodyReq (a : Answer) (hf : s.fsm = .bodyReq) (hr : s.pins.rst = false) :
    applyMove (.answer a) s = .next ((s.deliver 9 a).2.bodyAnswer (s.deliver 9 a).1) :=
  congrArg Host.Outcome.next (answerRead_bodyReq a hr hf)

/-- Settles O27: ERROR completes at once; an answer of `k` bytes is stored, and the stored frame decides the end. -/
theorem bodyAnswerStep : Obligations.BodyAnswerStep := by
  intro s hf hr
  refine ⟨fun lost => ?_, fun len => ?_⟩
  · rw [applyMove_answer_bodyReq _ hf hr]
    exact congrArg Host.Outcome.next (complete_of_not_fatal rfl)
  · intro k
    have hk : k ≤ s.pending.length := Nat.min_le_right ..
    have hlen : (s.pending.take k).length = k := List.length_take_of_le hk
    refine ⟨withBody s.rxFrame (s.pending.take k), _, withBody_take_getElem _ _ hk, rfl, ?_⟩
    rw [applyMove_answer_bodyReq _ hf hr, deliver_bytes_eq rfl]
    exact congrArg Host.Outcome.next (bodyAnswer_bytes hlen (by simp only [checksumBad_iff]; rfl))

end Sys2Proof.Machine
end

section
/-! PROOFS. The fatal stop (60_exceptions.md R201): with FAULT = 1 only reset changes the block. -/

namespace Sys2Proof.Machine

variable {s t : State} {m : Move}

/-- A busy block has no fault, so a block with FAULT = 1 is in IDLE. -/
theorem idle_of_fault (hinv : s.Inv) (hfault : s.fault = true) : s.fsm = .idle := by
  by_contra hne
  obtain ⟨-, -, hno⟩ := inv_busy hinv (by simp [State.busy, hne])
  simp [hno] at hfault

/-- With FAULT = 1 REQ_READY is 0 (10_state.md R33). -/
theorem reqReady_of_fault (hfault : s.fault = true) : s.reqReady = false := by
  simp [State.reqReady, hfault]

/-- In IDLE with FAULT = 1 no step of the block but reset is enabled: what is left are the moves of the host and of the
transport, which write lines and stream alone. -/
theorem applyMove_of_idle_fault (hidle : s.fsm = .idle) (hfault : s.fault = true) (h : applyMove m s = .next t) :
    ((∃ lost, m = .reset lost) ∧ s.pins.rst = true) ∨ ∃ pins pending, t = { s with pins := pins, pending := pending } := by
  have hacc : s.canAccept = false := canAccept_eq_false (.inl (reqReady_of_fault hfault))
  obtain rfl | ⟨-, hc, -⟩ | ⟨-, hc, -⟩ | ⟨-, -, -, hscan, -⟩ | ⟨-, -, -, hbody, -⟩ | ⟨-, -, hback, -⟩ |
    ⟨lost, rfl, hrst, -⟩ | ⟨bs, -, rfl⟩ | ⟨p, -, rfl⟩ := applyMove_cases h
  · exact .inr ⟨t.pins, t.pending, rfl⟩
  · simp [hacc] at hc
  · simp [hacc] at hc
  · simp [hidle] at hscan
  · simp [hidle] at hbody
  · simp [hidle] at hback
  · exact .inl ⟨⟨lost, rfl⟩, hrst⟩
  · exact .inr ⟨s.pins, s.pending ++ bs, rfl⟩
  · exact .inr ⟨p, s.pending, rfl⟩

/-- Settles O39: FAULT = 1 comes with IDLE and REQ_READY = 0, so a step that is not the reset writes no register of the block. -/
theorem fatalStopsUntilReset : Obligations.FatalStopsUntilReset := by
  refine ⟨fun st => (fatal_iff st).symm, fun st s => s.complete_fault st, fun s t hinv hfault h => ?_⟩
  refine ⟨reqReady_of_fault hfault, ?_⟩
  obtain ⟨ag, dr, -, hstep⟩ := step_eq s
  rw [hstep] at h
  obtain hreset | ⟨pins, pending, rfl⟩ := applyMove_of_idle_fault (s := { s with agenda := ag, draws := dr })
    (idle_of_fault hinv hfault) hfault h
  · exact .inl hreset
  · exact .inr ⟨by simp [SameBlock], hfault⟩

end Sys2Proof.Machine
end

section
/-! PROOFS. The reset step (70_reset_and_hazards.md R230, R231): what it writes, and that RST = 1 leaves only it enabled. -/

namespace Sys2Proof.Machine

variable {s t : State} {m : Move} {lost : Nat}

/-! ## Host reads of registers without a value -/

/-- Elements of RX_FRAME at RX_LEN or above hold no value (10_state.md R30). -/
theorem readOut_rxFrame_of_rxLen_le {i : Fin 10} (h : s.rxLen.toNat ≤ i.val) :
    s.readOut (.rxFrame i) = .error (.readNoValue (.rxFrame i)) := by
  simp [State.readOut, heldOr, Nat.not_lt.2 h]

theorem readOut_txFrame_of_not_holds (i : Fin 19) (h : s.txHolds = false) :
    s.readOut (.txFrame i) = .error (.readNoValue (.txFrame i)) := by
  simp [State.readOut, heldOr, h]

theorem readOut_cksumOut_of_not_holds (h : s.cksumHolds = false) :
    s.readOut .cksumOut = .error (.readNoValue .cksumOut) := by
  simp [State.readOut, heldOr, h]

theorem readOut_pm25Raw_of_not_holds (h : s.readingHolds = false) :
    s.readOut .pm25Raw = .error (.readNoValue .pm25Raw) := by
  simp [State.readOut, heldOr, h]

theorem readOut_pm10Raw_of_not_holds (h : s.readingHolds = false) :
    s.readOut .pm10Raw = .error (.readNoValue .pm10Raw) := by
  simp [State.readOut, heldOr, h]

/-- After the reset step the registers of reset "none" are without a value (R230). -/
theorem resetBlock_readOut_no_value {r : OutReg} (hr : r ∈ [.cksumOut, .pm25Raw, .pm10Raw]) :
    (s.resetBlock lost).readOut r = .error (.readNoValue r) := by
  simp only [List.mem_cons, List.not_mem_nil, or_false] at hr
  obtain rfl | rfl | rfl := hr
  · exact readOut_cksumOut_of_not_holds rfl
  · exact readOut_pm25Raw_of_not_holds rfl
  · exact readOut_pm10Raw_of_not_holds rfl

/-! ## The outputs of a block in IDLE -/

/-- In IDLE no read is outstanding (10_state.md R37). -/
theorem rdReq_of_idle (h : s.fsm = .idle) : s.rdReq = none := by
  simp [State.rdReq, h]

/-- In IDLE BUSY is 0 (10_state.md R34). -/
theorem busy_of_idle (h : s.fsm = .idle) : s.busy = false := by
  simp [State.busy, h]

/-! ## The moves while RST = 1 -/

/-- While RST = 1 the reset step is enabled. -/
theorem applyMove_reset (hrst : s.pins.rst = true) : applyMove (.reset lost) s = .next (s.resetBlock lost) := by
  simp [applyMove, hrst]

/-- While RST = 1 no step of the block but reset is enabled: what is left are the moves of the host and of the transport,
which write lines and stream alone. -/
theorem applyMove_of_rst (hrst : s.pins.rst = true) (hm : ∀ lost, m ≠ .reset lost) (h : applyMove m s = .next t) :
    ∃ pins pending, t = { s with pins := pins, pending := pending } := by
  have hacc : s.canAccept = false := by simp [State.canAccept, hrst]
  obtain rfl | ⟨-, hc, -⟩ | ⟨-, hc, -⟩ | ⟨-, -, hlow, -⟩ | ⟨-, -, hlow, -⟩ | ⟨-, hlow, -⟩ | ⟨lost, hreset, -⟩ |
    ⟨bs, -, rfl⟩ | ⟨p, -, rfl⟩ := applyMove_cases h
  · exact ⟨t.pins, t.pending, rfl⟩
  · simp [hacc] at hc
  · simp [hacc] at hc
  · simp [hrst] at hlow
  · simp [hrst] at hlow
  · simp [hrst] at hlow
  · exact absurd hreset (hm lost)
  · exact ⟨s.pins, s.pending ++ bs, rfl⟩
  · exact ⟨p, s.pending, rfl⟩

/-- Settles O47: the reset step gives the registers of `State.reset`, with the draw off the stream's head, and every other
move that RST = 1 leaves enabled writes no register of the block. -/
theorem resetStepWritesResetValues : Obligations.ResetStepWritesResetValues := by
  intro s hrst
  constructor
  · intro lost n
    refine ⟨s.resetBlock lost, applyMove_reset hrst, rfl, rfl, rfl, rfl, rfl, rfl, rfl, rfl, rfl, rfl, ?_, ?_, ?_, ?_, ?_,
      ?_, s.resetBlock_pins lost, s.resetBlock_params lost, ?_⟩
    · exact fun i => readOut_rxFrame_of_rxLen_le (Nat.zero_le i.val)
    · exact fun i => readOut_txFrame_of_not_holds i rfl
    · exact fun r => resetBlock_readOut_no_value
    · exact (reqReady_iff _).2 ⟨rfl, rfl⟩
    · exact busy_of_idle rfl
    · exact rdReq_of_idle rfl
    · have hn : s.outstanding = n := rfl
      rw [State.resetBlock_pending, hn]
  · intro m t hm h
    obtain ⟨pins, pending, rfl⟩ := applyMove_of_rst hrst hm h
    simp [SameBlock]

end Sys2Proof.Machine
end


section
/-! PROOFS. The request's words: encoding and decoding are inverse, and what the assembler's list forms decode to
(30_encoding.md sections 1, 2 and 6). -/

namespace Sys2Proof

variable {op : BitVec 4} {cmd plen : Byte} {bs : List Byte}

/-! ## Round trips -/

/-- A packed control word's reserved fields are 0, so its op code alone decides. -/
theorem decode_packCtrl (op : BitVec 4) (cmd plen : Byte) (l : Lanes) :
    decode (packCtrl op cmd plen) l = requestOf op cmd plen l.toList := by
  rw [decode_of_reserved_zero _ _ (ctrlReservedLow_packCtrl ..) (ctrlReservedHigh_packCtrl ..)]
  simp

/-- The op code and the fields of a request name it. -/
theorem requestOf_fields (i : Instr) : requestOf i.op i.cmd i.plen i.lanes = .ok i := by
  cases i <;> rfl

/-- Settles O1: the fields come back from the packed word, and twelve lanes from the port. -/
theorem decodeEncodeAllRequests : Obligations.DecodeEncodeAllRequests := by
  intro i hwf
  have hlanes : (lanesOf i.lanes).toList = i.lanes := toList_lanesOf _ (by simpa [Instr.wf] using hwf)
  rw [encode, decode_packCtrl, hlanes, requestOf_fields]

/-- Settles O2: a legal word has its reserved bits 0, so it is the packing of the fields that its request carries. -/
theorem encodeDecodeLegalWords : Obligations.EncodeDecodeLegalWords := by
  intro c l i h
  obtain ⟨-, e, he⟩ | ⟨hlow, hhigh, -, j, hj, hop, hcmd, hplen, hlanes⟩ := decode_cases c l
  · simp [h] at he
  · obtain rfl : i = j := by simpa [h] using hj
    refine ⟨by simp [Instr.wf, hlanes], ?_⟩
    rw [encode, hop, hcmd, hplen, hlanes, lanesOf_toList, packCtrl_of_fields c hlow hhigh]

/-! ## The assembler's list forms -/

/-- The lanes of a list: its first twelve bytes, then 0x00. -/
theorem lanesOf_toList_eq_take_append (bs : List Byte) :
    (lanesOf bs).toList = bs.take 12 ++ List.replicate (12 - bs.length) 0 := by
  apply List.ext_getElem
  · simp; omega
  · intro i hi _
    have h12 : i < 12 := by simpa using hi
    by_cases hlt : i < bs.length
    · simp [lanesOf, h12, hlt]
    · simp [lanesOf, List.getElem_append, hlt]

/-- A list of at most 255 bytes assembles, and its request decodes by the op code it was given. -/
theorem assembleList_decodes (op : BitVec 4) (cmd : Byte) (h : bs.length ≤ 255) :
    ∃ r, assembleList op cmd bs = some r ∧
      decode r.ctrl r.lanes =
        requestOf op cmd (BitVec.ofNat 8 bs.length) (bs.take 12 ++ List.replicate (12 - bs.length) 0) :=
  ⟨_, if_pos h, by rw [decode_packCtrl, lanesOf_toList_eq_take_append]⟩

/-- A longer list is refused (R90). -/
theorem assembleList_refused (op : BitVec 4) (cmd : Byte) (h : 255 < bs.length) : assembleList op cmd bs = none :=
  if_neg (by omega)

/-- Settles O7: each list form is `assembleList` with its op code, and FINDSTART and READFRAME are closed words. -/
theorem assembledListsDecode : Obligations.AssembledListsDecode := by
  intro c bs k lanes
  refine ⟨fun h => ?_, fun h => ?_, by decide, by decide⟩
  · exact ⟨assembleList_decodes 1 c.value h, assembleList_decodes 2 c.value h, assembleList_decodes 3 0 h,
      assembleList_decodes 6 0 h⟩
  · exact ⟨assembleList_refused 1 c.value h, assembleList_refused 2 c.value h, assembleList_refused 3 0 h,
      assembleList_refused 6 0 h⟩

/-- Settles O5: eight closed words, run through the decoder. -/
theorem exampleWordsDecode : Obligations.ExampleWordsDecode := by
  unfold Obligations.ExampleWordsDecode
  decide

end Sys2Proof
end

section
/-! PROOFS. Reset establishes the invariant, and every step keeps it. -/

namespace Sys2Proof.Machine

variable {s t : State} {m : Move}

/-! ## Reset -/

/-- The reset registers meet the invariant, whatever the lines, the stream and the parameters are. -/
theorem inv_resetBlock (lost : Nat) (hb : 1 ≤ s.params.scanBudget) : (s.resetBlock lost).Inv := by
  refine ⟨?_, ⟨hb, ?_⟩, ?_, ?_⟩ <;>
    simp [State.FlagsInv, State.RxInv, State.ResultInv, State.busy, State.reset, Status.fatal]

/-- Settles O48: `State.reset` is a closed state, and the reset step writes its registers. -/
theorem resetMeetsInvariant : Obligations.ResetMeetsInvariant := by
  refine ⟨by decide, fun s lost hrst hb => ?_⟩
  exact ⟨s.resetBlock lost, applyMove_reset hrst, rfl, inv_resetBlock lost hb⟩

/-! ## The accept step -/

/-- The start of a scan establishes what the invariant says of one. -/
theorem inv_beginOp_scanStart {op : BitVec 4} (hop : op = 0x4 ∨ op = 0x5) (h : s.Inv) (hf : s.fault = false) :
    (s.beginOp op).scanStart.Inv := by
  obtain ⟨-, ⟨hb, -⟩, -, hres⟩ := h
  refine ⟨?_, ⟨hb, Nat.zero_le _, fun _ => ⟨hop, rfl⟩, fun _ => ⟨hb, rfl⟩, nofun, nofun⟩, ?_, hres⟩
  · simp [State.FlagsInv, hf, Status.fatal]
  · simp [State.RxInv]

/-- Every request's accept step keeps the invariant. -/
theorem inv_exec {i : Instr} (h : s.Inv) (hf : s.fault = false) (he : exec i s = .next t) : t.Inv := by
  obtain ⟨-, ⟨hb, ha, -⟩, hrx, htx, hck, hrd, hframe⟩ := id h
  obtain ⟨c, n, l, -, hst, hi⟩ | ⟨c, n, l, -, -, hi⟩ | ⟨c, n, l, -, -, hi⟩ | ⟨c, n, l, -, -, hi⟩ | ⟨c, n, l, -, hi⟩ |
    ⟨c, n, l, -, hi⟩ | ⟨c, n, l, -, hi⟩ | ⟨c, n, l, -, -, hi⟩ | ⟨c, n, l, -, -, hi⟩ := exec_cases i s <;>
    obtain rfl := next_eq_iff.1 (hi.symm.trans he)
  · have hcmd : cmdOK s.params c = true := by
      by_contra hbad
      obtain ⟨-, -, hc⟩ | ⟨h', -⟩ | ⟨h', -⟩ := commandStatus_cases s.params c n
      · exact hbad hc
      · simp [h'] at hst
      · simp [h'] at hst
    exact inv_complete _ _ nofun hf hb ha hrx ⟨fun _ => rfl, hck, hrd, fun _ => isCommandFrame_buildFrame _ _ _ hcmd⟩
  · exact inv_complete _ _ commandStatus_ne_none hf hb ha hrx ⟨nofun, hck, hrd, hframe⟩
  · exact inv_complete _ _ nofun hf hb ha hrx ⟨htx, fun _ => rfl, hrd, hframe⟩
  · exact inv_complete _ _ commandStatus_ne_none hf hb ha hrx ⟨htx, nofun, hrd, hframe⟩
  · exact inv_complete _ _ nofun hf hb ha hrx ⟨htx, fun _ => rfl, hrd, hframe⟩
  · exact inv_beginOp_scanStart (.inl rfl) h hf
  · exact inv_beginOp_scanStart (.inr rfl) h hf
  · exact inv_complete _ _ nofun hf hb ha hrx ⟨htx, hck, fun _ => rfl, hframe⟩
  · exact inv_complete _ _ (decodeStatus_ne_none _) hf hb ha hrx ⟨htx, hck, nofun, hframe⟩

/-! ## The scan and the body -/

/-- A scanning or reading block is busy. -/
theorem busy_of_fsm {f : FsmState} (hfsm : s.fsm = f) (hf : f ≠ .idle) : s.busy = true := by
  simp [State.busy, hfsm, hf]

/-- The read-answer step in SCAN_REQ keeps the invariant: an attempt below the budget is counted without a wrap. -/
theorem inv_scanAnswer (ans : Received) (h : s.Inv) (hfsm : s.fsm = .scanReq) : (s.scanAnswer ans).Inv := by
  have hbusy : s.busy = true := busy_of_fsm hfsm nofun
  obtain ⟨hdone, -, hfault⟩ := inv_busy h hbusy
  obtain ⟨hflags, ⟨hb, ha, hop, hscan, -⟩, hrx, hres⟩ := h
  obtain ⟨hop, hvalid⟩ := hop hbusy
  obtain ⟨hlt, hlen⟩ := hscan hfsm
  have hcount : nextCount s.params s.attempts = s.attempts + 1 := nextCount_of_lt hlt
  have hle : nextCount s.params s.attempts ≤ s.params.scanBudget := by omega
  have hone : 1 ≤ nextCount s.params s.attempts := by omega
  have hheader : s.countAttempt.storeHeader.RxInv := by simp [State.RxInv, hdr, hvalid]
  have hflags' (f : FsmState) : (s.goto f).FlagsInv := ⟨hflags.1, hflags.2.1, fun _ => hdone⟩
  obtain ⟨-, h⟩ | ⟨_, -, -, h⟩ | ⟨_, -, hc, h⟩ | ⟨_, -, -, -, h⟩ | ⟨-, hne, h⟩ | ⟨_, _, -, -, hne, h⟩ := scanAnswer_cases ans s <;>
    rw [h]
  · exact inv_complete _ _ nofun hfault hb ha hrx hres
  · exact inv_complete _ _ nofun hfault hb hle hheader hres
  · exact ⟨hflags' .bodyReq, ⟨hb, hle, fun _ => ⟨hop, hvalid⟩, nofun, nofun, fun _ => ⟨hone, hop.resolve_left hc, rfl⟩⟩,
      hheader, hres⟩
  · exact inv_complete _ _ nofun hfault hb hle hrx hres
  · exact ⟨hflags' .backoff, ⟨hb, hle, fun _ => ⟨hop, hvalid⟩, nofun, fun _ => ⟨hone, lt_of_le_of_ne hle hne, hlen⟩, nofun⟩,
      hrx, hres⟩
  · have hlt' : nextCount s.params s.attempts < s.params.scanBudget := lt_of_le_of_ne hle hne
    have hinv : s.countAttempt.Inv :=
      ⟨hflags, ⟨hb, hle, fun _ => ⟨hop, hvalid⟩, fun _ => ⟨hlt', hlen⟩, by simp [hfsm], by simp [hfsm]⟩, hrx, hres⟩
    exact inv_nextAttempt _ hinv hbusy hlt' hlen

/-- A stored body of at most nine bytes leaves the received frame as the invariant has it, FRAME_VALID being 0. -/
theorem rxInv_storeBody {bs : List Byte} (hlen : bs.length ≤ 9) (hhdr : s.rxFrame[0] = 0xAA) (hvalid : s.frameValid = false) :
    (s.storeBody bs).RxInv := by
  refine ⟨?_, fun _ => ?_, by simp [hvalid], by simp [hvalid]⟩
  · simp only [State.storeBody_rxLen, BitVec.toNat_ofNat]; omega
  · simpa [withBody_getElem] using hhdr

/-- The read-answer step in BODY_REQ keeps the invariant: the frame it accepts is complete and passes the strict check. -/
theorem inv_bodyAnswer {ans : Received} (h : s.Inv) (hfsm : s.fsm = .bodyReq)
    (hans : ∀ bs, ans = .bytes bs → bs.length ≤ 9) : (s.bodyAnswer ans).Inv := by
  have hbusy : s.busy = true := busy_of_fsm hfsm nofun
  obtain ⟨-, -, hfault⟩ := inv_busy h hbusy
  obtain ⟨-, ⟨hb, ha, hop, -, -, hbody⟩, hrx, hres⟩ := h
  obtain ⟨-, hvalid⟩ := hop hbusy
  obtain ⟨-, -, hrxLen⟩ := hbody hfsm
  have hhdr : s.rxFrame[0] = 0xAA := hrx.2.1 (by simp [hrxLen])
  obtain ⟨-, h⟩ | ⟨bs, hbs, hlen, h⟩ | ⟨bs, hbs, hlen, -, h⟩ | ⟨bs, hbs, hlen, hck, h⟩ := bodyAnswer_cases ans s <;> rw [h]
  · exact inv_complete _ _ nofun hfault hb ha hrx hres
  · exact inv_complete _ _ nofun hfault hb ha (rxInv_storeBody (hans _ hbs) hhdr hvalid) hres
  · exact inv_complete _ _ nofun hfault hb ha (rxInv_storeBody (hans _ hbs) hhdr hvalid) hres
  · have hnine : bs.length = 9 := le_antisymm (hans _ hbs) hlen
    obtain ⟨hle, hhdr', -⟩ := rxInv_storeBody (hans _ hbs) hhdr hvalid
    refine inv_complete _ _ nofun hfault hb ha ⟨hle, hhdr', fun _ => ?_, fun _ hstrict => ?_⟩ hres
    · simp [hnine]
    · simpa [State.checksumBad, show s.params.strictChecksum = true from hstrict] using hck

/-! ## Every move -/

/-- An answer to `StreamRead(n)` brings at most `n` bytes (20_memory.md R52). -/
theorem deliver_length_le {n : Nat} {a : Answer} {bs : List Byte} (h : (s.deliver n a).1 = .bytes bs) : bs.length ≤ n := by
  obtain ⟨k, hk, -, herr | hbytes⟩ := deliver_cases n a s
  · simp [h] at herr
  · obtain rfl : bs = s.pending.take k := by simpa [h] using hbytes
    exact (List.length_take_le ..).trans hk

/-- The invariant does not speak of the stream, the lines and the scheduling data, so a delivery keeps it. -/
theorem inv_deliver (n : Nat) (a : Answer) (h : s.Inv) : (s.deliver n a).2.Inv := by
  cases a <;> exact h

/-- Every move keeps the invariant. -/
theorem inv_applyMove (h : s.Inv) (hm : applyMove m s = .next t) : t.Inv := by
  obtain rfl | ⟨-, hc, i, -, hi⟩ | ⟨-, hc, -, rfl⟩ | ⟨a, -, -, hfsm, rfl⟩ | ⟨a, -, -, hfsm, rfl⟩ | ⟨-, -, hfsm, rfl⟩ |
    ⟨lost, -, -, rfl⟩ | ⟨bs, -, rfl⟩ | ⟨p, -, rfl⟩ := applyMove_cases hm
  · exact h
  · obtain ⟨-, -, -, hfault⟩ := (canAccept_iff s).1 hc
    exact inv_exec h hfault hi
  · obtain ⟨-, -, -, hfault⟩ := (canAccept_iff s).1 hc
    obtain ⟨-, ⟨hb, ha, -⟩, hrx, hres⟩ := h
    exact inv_complete _ _ nofun hfault hb ha hrx hres
  · exact inv_scanAnswer _ (inv_deliver 1 a h) (by simpa using hfsm)
  · exact inv_bodyAnswer (inv_deliver 9 a h) (by simpa using hfsm) fun _ => deliver_length_le
  · obtain ⟨-, ⟨-, -, -, -, hback, -⟩, -⟩ := id h
    obtain ⟨-, hlt, hlen⟩ := hback hfsm
    exact inv_nextAttempt s h (busy_of_fsm hfsm nofun) hlt hlen
  · exact inv_resetBlock lost h.2.1.1
  · exact h
  · exact h

/-- Settles O49: taking a move changes only the scheduling data, and every move keeps the invariant. -/
theorem stepKeepsInvariant : Obligations.StepKeepsInvariant := by
  intro s t hinv h
  obtain ⟨ag, dr, -, hstep⟩ := step_eq s
  rw [hstep] at h
  exact inv_applyMove (s := { s with agenda := ag, draws := dr }) hinv h

end Sys2Proof.Machine
end

section
/-! PROOFS. The scan and the body in equations: one per branch of the two read-answer steps (41_stream_reader.md R134,
42_response_decoder.md R161). -/

namespace Sys2Proof.Machine

variable {s : State} {bs rest : List Byte} {b : Byte}

/-! ## The read-answer step in SCAN_REQ -/

theorem scanAnswer_header_findstart (hop : s.curOp = 0x4) :
    s.scanAnswer (.bytes (hdr :: rest)) = s.countAttempt.storeHeader.complete .ok := by
  simp [State.scanAnswer, State.scanMatch, hop]

theorem scanAnswer_header_readframe (hop : s.curOp ≠ 0x4) :
    s.scanAnswer (.bytes (hdr :: rest)) = s.countAttempt.storeHeader.goto .bodyReq := by
  have hop' : s.countAttempt.storeHeader.curOp ≠ 0x4 := hop
  simp only [State.scanAnswer, List.head?_cons, if_true, State.scanMatch, if_neg hop']

theorem scanAnswer_noSync (hh : bs.head? ≠ some hdr) (hn : nextCount s.params s.attempts = s.params.scanBudget) :
    s.scanAnswer (.bytes bs) = s.countAttempt.complete .noSync := by
  simp [State.scanAnswer, hh, hn]

theorem scanAnswer_empty (hn : nextCount s.params s.attempts ≠ s.params.scanBudget) :
    s.scanAnswer (.bytes []) = s.countAttempt.goto .backoff := by
  simp [State.scanAnswer, hn]

theorem scanAnswer_miss (hh : b ≠ hdr) (hn : nextCount s.params s.attempts ≠ s.params.scanBudget) :
    s.scanAnswer (.bytes (b :: rest)) = s.countAttempt.nextAttempt := by
  simp [State.scanAnswer, hh, hn]

/-! ## Between two attempts -/

theorem nextAttempt_cancelled (hc : s.pins.cancel = true) : s.nextAttempt = s.complete .cancelled := if_pos hc

theorem nextAttempt_not_cancelled (hc : s.pins.cancel = false) : s.nextAttempt = s.goto .scanReq := by
  simp [State.nextAttempt, hc]

/-- The next attempt, whole: CANCEL = 1 ends the operation, else the next `StreamRead(1)` is issued. -/
theorem nextAttempt_eq (s : State) : s.nextAttempt =
    if s.pins.cancel = true then { s with status := .cancelled, done := true, fsm := .idle }
    else { s with fsm := .scanReq } := by
  cases hc : s.pins.cancel
  · exact nextAttempt_not_cancelled hc
  · exact (nextAttempt_cancelled hc).trans (complete_of_not_fatal rfl)

/-! ## The read-answer step in BODY_REQ -/

theorem bodyAnswer_short (hlen : bs.length < 9) : s.bodyAnswer (.bytes bs) = (s.storeBody bs).complete .shortRead :=
  if_pos hlen

theorem bodyAnswer_mismatch (hlen : 9 ≤ bs.length) (hck : (s.storeBody bs).checksumBad = true) :
    s.bodyAnswer (.bytes bs) = (s.storeBody bs).complete .checksumMismatch := by
  simp [State.bodyAnswer, bodyLen, Nat.not_lt.2 hlen, hck]

theorem bodyAnswer_accepted (hlen : 9 ≤ bs.length) (hck : (s.storeBody bs).checksumBad = false) :
    s.bodyAnswer (.bytes bs) = (s.storeBody bs).acceptFrame.complete .ok := by
  simp [State.bodyAnswer, bodyLen, Nat.not_lt.2 hlen, hck]

/-! ## The moves that run them -/

theorem applyMove_answer_scanReq (a : Answer) (hf : s.fsm = .scanReq) (hr : s.pins.rst = false) :
    applyMove (.answer a) s = .next ((s.deliver 1 a).2.scanAnswer (s.deliver 1 a).1) :=
  congrArg Host.Outcome.next (answerRead_scanReq a hr hf)

theorem applyMove_expire_backoff (hf : s.fsm = .backoff) (hr : s.pins.rst = false) :
    applyMove .expire s = .next s.nextAttempt := by
  simp [applyMove, State.expireBackoff, State.backoffExpire, hf, hr]

/-- Outside BACKOFF no wait ends. -/
theorem applyMove_expire_of_ne_backoff (hf : s.fsm ≠ .backoff) : applyMove .expire s = .next s := by
  simp [applyMove, State.expireBackoff, hf]

/-- With no read outstanding there is nothing to answer. -/
theorem applyMove_answer_of_not_reading (a : Answer) (hs : s.fsm ≠ .scanReq) (hb : s.fsm ≠ .bodyReq) :
    applyMove (.answer a) s = .next s := by
  cases hf : s.fsm <;> simp_all [applyMove, State.answerRead]

/-- While RST = 1 no read is answered. -/
theorem applyMove_answer_of_rst (a : Answer) (hr : s.pins.rst = true) : applyMove (.answer a) s = .next s := by
  simp [applyMove, State.answerRead, hr]

/-- While RST = 1 no backoff wait ends. -/
theorem applyMove_expire_of_rst (hr : s.pins.rst = true) : applyMove .expire s = .next s := by
  simp [applyMove, State.expireBackoff, hr]

/-- Settles O24: in BACKOFF the expiry is the sample of CANCEL, elsewhere it is not enabled. -/
theorem backoffExpiryStep : Obligations.BackoffExpiryStep := by
  intro s hr
  refine ⟨fun hf hc => ?_, fun hf hc => ?_, applyMove_expire_of_ne_backoff⟩
  · rw [applyMove_expire_backoff hf hr, nextAttempt_eq, if_pos hc]
  · rw [applyMove_expire_backoff hf hr, nextAttempt_not_cancelled hc, State.goto]

/-! ## The answer to `StreamRead(1)` -/

section
variable {len : Nat} (hf : s.fsm = .scanReq) (hr : s.pins.rst = false)
include hf hr

/-- ERROR ends the scan at once (R140). -/
theorem applyMove_answer_error_scanReq (lost : Nat) : applyMove (.answer (.error lost)) s =
    .next { s with pending := s.pending.drop (min lost 1), status := .transportError, done := true, fsm := .idle } := by
  rw [applyMove_answer_scanReq _ hf hr]
  exact congrArg Host.Outcome.next (complete_of_not_fatal rfl)

/-- An answer that brings the next byte of the stream. -/
theorem applyMove_answer_byte (hlen : 1 ≤ len) (hp : s.pending = b :: rest) :
    applyMove (.answer (.bytes len)) s = .next ({ s with pending := rest }.scanAnswer (.bytes [b])) := by
  rw [applyMove_answer_scanReq _ hf hr, deliver_bytes, Nat.min_eq_right hlen, hp]
  rfl

/-- An empty answer: no byte drawn, or none pending. -/
theorem applyMove_answer_empty (h : len = 0 ∨ s.pending = []) :
    applyMove (.answer (.bytes len)) s = .next (s.scanAnswer (.bytes [])) := by
  rw [applyMove_answer_scanReq _ hf hr]
  obtain rfl | hp := h
  · simp
  · rw [deliver_bytes, hp, List.take_nil, List.drop_nil, ← hp]

/-- A match: the header is stored, and FINDSTART ends while READFRAME goes on to the body (R139). -/
theorem applyMove_answer_header (hlen : 1 ≤ len) (hp : s.pending = hdr :: rest) :
    applyMove (.answer (.bytes len)) s =
      .next (if s.curOp = 0x4 then
        { s with
          pending := rest, attempts := nextCount s.params s.attempts, rxFrame := s.rxFrame.set 0 hdr, rxLen := 1
          status := .ok, done := true, fsm := .idle }
      else
        { s with
          pending := rest, attempts := nextCount s.params s.attempts, rxFrame := s.rxFrame.set 0 hdr, rxLen := 1
          fsm := .bodyReq }) := by
  rw [applyMove_answer_byte hf hr hlen hp]
  refine congrArg Host.Outcome.next ?_
  by_cases hop : s.curOp = 0x4
  · rw [if_pos hop]
    exact (scanAnswer_header_findstart (s := { s with pending := rest }) hop).trans (complete_of_not_fatal rfl)
  · rw [if_neg hop]
    exact scanAnswer_header_readframe (s := { s with pending := rest }) hop

/-- An empty read: NO_SYNC where the budget is exhausted, else the backoff wait (R136, R138). -/
theorem applyMove_answer_none (h : len = 0 ∨ s.pending = []) :
    applyMove (.answer (.bytes len)) s =
      .next (if nextCount s.params s.attempts = s.params.scanBudget then
        { s with attempts := nextCount s.params s.attempts, status := .noSync, done := true, fsm := .idle }
      else { s with attempts := nextCount s.params s.attempts, fsm := .backoff }) := by
  rw [applyMove_answer_empty hf hr h]
  refine congrArg Host.Outcome.next ?_
  by_cases hn : nextCount s.params s.attempts = s.params.scanBudget
  · rw [if_pos hn]
    exact (scanAnswer_noSync (by simp) hn).trans (complete_of_not_fatal rfl)
  · rw [if_neg hn]
    exact scanAnswer_empty hn

/-- A miss: NO_SYNC where the budget is exhausted, else the next attempt (R135, R138). -/
theorem applyMove_answer_miss (hlen : 1 ≤ len) (hp : s.pending = b :: rest) (hb : b ≠ hdr) :
    applyMove (.answer (.bytes len)) s =
      .next (if nextCount s.params s.attempts = s.params.scanBudget then
        { s with
          pending := rest, attempts := nextCount s.params s.attempts, status := .noSync, done := true, fsm := .idle }
      else { s with pending := rest }.countAttempt.nextAttempt) := by
  rw [applyMove_answer_byte hf hr hlen hp]
  refine congrArg Host.Outcome.next ?_
  by_cases hn : nextCount s.params s.attempts = s.params.scanBudget
  · rw [if_pos hn]
    exact (scanAnswer_noSync (s := { s with pending := rest }) (by simpa using hb) hn).trans (complete_of_not_fatal rfl)
  · rw [if_neg hn]
    exact scanAnswer_miss (s := { s with pending := rest }) hb hn

end

/-- The next attempt does not depend on the FSM state it is taken from. -/
theorem nextAttempt_goto (s : State) (f : FsmState) : (s.goto f).nextAttempt = s.nextAttempt := by
  rw [nextAttempt_eq, nextAttempt_eq]
  rfl

/-- Settles O37: a miss and the expiry of a wait after it both take the next attempt. -/
theorem backoffAfterMissWouldChangeNothing : Obligations.BackoffAfterMissWouldChangeNothing := by
  intro s b rest hf hr hp hb hn
  have hexpire : applyMove .expire ({ s with pending := rest }.countAttempt.goto .backoff) =
      .next ({ s with pending := rest }.countAttempt.goto .backoff).nextAttempt := applyMove_expire_backoff rfl hr
  rw [applyMove_answer_miss hf hr le_rfl hp hb, if_neg (by exact hn), ← nextAttempt_goto _ .backoff]
  exact hexpire.symm

/-- Settles O23: ERROR, a match, an empty read and a miss, each with its next state. -/
theorem scanAnswerStep : Obligations.ScanAnswerStep := by
  intro s hf hr n
  refine ⟨nextCount_of_lt, applyMove_answer_error_scanReq hf hr, fun len rest => applyMove_answer_header hf hr,
    fun len => applyMove_answer_none hf hr, fun len b rest hlen hp hb => ?_⟩
  rw [applyMove_answer_miss hf hr hlen hp hb, nextAttempt_eq]
  rfl

end Sys2Proof.Machine
end

section
/-! PROOFS. Registers without a value are never seen (10_state.md R30): a state that differs only in them steps alike. -/

namespace Sys2Proof.Machine

variable {s t : State} {m : Move}

/-! ## Other contents for the registers that may be without a value -/

/-- The registers whose contents `SameHeld` lets differ while they hold no value, and CUR_OP. -/
structure Contents where
  curOp : BitVec 4
  rxFrame : RespFrame
  txFrame : CmdFrame
  cksumOut : Byte
  pm25Raw : Half
  pm10Raw : Half

/-- The machine with other contents in those registers. -/
def State.withContents (c : Contents) (s : State) : State :=
  { s with
    curOp := c.curOp, rxFrame := c.rxFrame, txFrame := c.txFrame
    cksumOut := c.cksumOut, pm25Raw := c.pm25Raw, pm10Raw := c.pm10Raw }

/-- The contents `c` differ from the state's own only where the state holds no value. -/
structure State.Hides (s : State) (c : Contents) : Prop where
  curOp : s.fsm ≠ .idle → s.curOp = c.curOp
  rxFrame : ∀ i : Fin 10, i.val < s.rxLen.toNat → s.rxFrame[i] = c.rxFrame[i]
  txFrame : s.txHolds = true → s.txFrame = c.txFrame
  cksumOut : s.cksumHolds = true → s.cksumOut = c.cksumOut
  reading : s.readingHolds = true → s.pm25Raw = c.pm25Raw ∧ s.pm10Raw = c.pm10Raw

/-- `SameHeld` is another choice of hidden contents. -/
theorem sameHeld_iff : SameHeld s t ↔ ∃ c, t = s.withContents c ∧ s.Hides c := by
  constructor
  · rintro ⟨hfsm, hop, hatt, hlen, hrx, hfv, hth, htx, htv, hch, hck, hcv, hrh, hrd, hrv, hst, hd, hf, hpins, hpend,
      hpar, hag, hdr⟩
    refine ⟨⟨t.curOp, t.rxFrame, t.txFrame, t.cksumOut, t.pm25Raw, t.pm10Raw⟩, ?_, hop, hrx, htx, hck, hrd⟩
    simp only [State.withContents, hfsm, hatt, hlen, hfv, hth, htv, hch, hcv, hrh, hrv, hst, hd, hf, hpins, hpend, hpar,
      hag, hdr]
  · rintro ⟨c, rfl, hop, hrx, htx, hck, hrd⟩
    exact ⟨rfl, hop, rfl, rfl, hrx, rfl, rfl, htx, rfl, rfl, hck, rfl, rfl, hrd, rfl, rfl, rfl, rfl, rfl, rfl, rfl, rfl,
      rfl⟩

/-! ## Host reads and the next move -/

/-- A read of a register element sees its value only where there is one. -/
theorem heldOr_congr {holds : Bool} {v w : Nat} (r : OutReg) (h : holds = true → v = w) :
    heldOr holds r v = heldOr holds r w := by
  cases holds with
  | false => rfl
  | true => rw [h rfl]

variable {c : Contents}

/-- Hidden contents are read by no host read. -/
theorem readOut_withContents (h : s.Hides c) (r : OutReg) : s.readOut r = (s.withContents c).readOut r := by
  cases r with
  | rxFrame i => exact heldOr_congr _ fun hi => congrArg BitVec.toNat (h.rxFrame i (by simpa using hi))
  | txFrame i => exact heldOr_congr _ fun ht => congrArg (fun f : CmdFrame => f[i].toNat) (h.txFrame ht)
  | cksumOut => exact heldOr_congr _ fun hc => congrArg BitVec.toNat (h.cksumOut hc)
  | pm25Raw => exact heldOr_congr _ fun hr => congrArg BitVec.toNat (h.reading hr).1
  | pm10Raw => exact heldOr_congr _ fun hr => congrArg BitVec.toNat (h.reading hr).2
  | _ => rfl

/-- The choice of the next move reads the agenda, the lines, whether an accept is enabled and the draw counter: a map of the
state that keeps these, and that leaves the scheduling data to be written, keeps the choice. -/
theorem takeMove_map (f : State → State) (hag : (f s).agenda = s.agenda) (hrst : (f s).pins.rst = s.pins.rst)
    (hacc : (f s).canAccept = s.canAccept) (hdr : (f s).draws = s.draws)
    (hset : ∀ ag dr, { f s with agenda := ag, draws := dr } = f { s with agenda := ag, draws := dr }) :
    (f s).takeMove = (s.takeMove.1, f s.takeMove.2) := by
  cases hs : s.agenda with
  | cons m rest =>
    rw [takeMove_cons s m rest hs, takeMove_cons (f s) m rest (hag.trans hs)]
    exact congrArg (Prod.mk m) (hdr ▸ hset rest s.draws)
  | nil =>
    cases hr : s.pins.rst <;> cases hc : s.canAccept <;>
      simp only [State.takeMove, hag, hrst, hacc, hdr, hs, hr, hc, if_true, Bool.false_eq_true, if_false]
    all_goals exact congrArg (Prod.mk _) (hset [] (s.draws + 1))

/-! ## The scan and the body -/

/-- Two outcomes agree where the second is the first's next state with other hidden contents. -/
theorem agree_of_hides {o o' : Host.Outcome State Fault Refusal} (ho : o = .next s) (ho' : o' = .next (s.withContents c))
    (h : s.Hides c) : outcomesAgree SameHeld o o' := by
  subst ho ho'
  exact sameHeld_iff.2 ⟨c, rfl, h⟩

/-- A completion hides what was hidden, and CUR_OP. -/
theorem hides_complete (st : Status) (h : s.Hides c) : (s.complete st).Hides c :=
  ⟨fun hne => absurd rfl hne, h.rxFrame, h.txFrame, h.cksumOut, h.reading⟩

/-- While an operation is in progress CUR_OP is not hidden, so the FSM may go on to any state. -/
theorem hides_goto (f : FsmState) (hop : s.curOp = c.curOp) (h : s.Hides c) : (s.goto f).Hides c :=
  ⟨fun _ => hop, h.rxFrame, h.txFrame, h.cksumOut, h.reading⟩

theorem hides_nextAttempt (hop : s.curOp = c.curOp) (h : s.Hides c) : s.nextAttempt.Hides c := by
  obtain ⟨-, hn⟩ | ⟨-, hn⟩ := nextAttempt_cases s <;> rw [hn]
  · exact hides_complete _ h
  · exact hides_goto _ hop h

theorem nextAttempt_withContents (c : Contents) (s : State) :
    (s.withContents c).nextAttempt = s.nextAttempt.withContents c := by
  rw [nextAttempt_eq, nextAttempt_eq, apply_ite (State.withContents c)]
  rfl

theorem hides_deliver (n : Nat) (a : Answer) (h : s.Hides c) : (s.deliver n a).2.Hides c := by
  cases a <;> exact ⟨h.curOp, h.rxFrame, h.txFrame, h.cksumOut, h.reading⟩

theorem deliver_withContents (c : Contents) (n : Nat) (a : Answer) (s : State) :
    (s.withContents c).deliver n a = ((s.deliver n a).1, (s.deliver n a).2.withContents c) := by
  cases a <;> rfl

/-- The header is stored over whatever byte 0 held, and no other byte is then held. -/
theorem hides_storeHeader (hop : s.curOp = c.curOp) (h : s.Hides c) :
    s.countAttempt.storeHeader.Hides { c with rxFrame := c.rxFrame.set 0 hdr } := by
  refine ⟨fun _ => hop, fun i hi => ?_, h.txFrame, h.cksumOut, h.reading⟩
  have h0 : i.val = 0 := by simpa using hi
  simp [Fin.getElem_fin, h0]

/-- A scan's read-answer step reads no hidden contents: CUR_OP is held while the block is busy. -/
theorem scanAnswer_withContents (ans : Received) (hop : s.curOp = c.curOp) (h : s.Hides c) :
    ∃ d, (s.withContents c).scanAnswer ans = (s.scanAnswer ans).withContents d ∧ (s.scanAnswer ans).Hides d := by
  have hcount : s.countAttempt.Hides c := ⟨h.curOp, h.rxFrame, h.txFrame, h.cksumOut, h.reading⟩
  obtain ⟨rfl, hs⟩ | ⟨rest, rfl, h4, hs⟩ | ⟨rest, rfl, h4, hs⟩ | ⟨bs, rfl, hh, hn, hs⟩ | ⟨rfl, hn, hs⟩ |
    ⟨b, rest, rfl, hb, hn, hs⟩ := scanAnswer_cases ans s <;> rw [hs]
  · exact ⟨c, rfl, hides_complete _ h⟩
  · exact ⟨{ c with rxFrame := c.rxFrame.set 0 hdr },
      scanAnswer_header_findstart (s := s.withContents c) (hop.symm.trans h4), hides_complete _ (hides_storeHeader hop h)⟩
  · exact ⟨{ c with rxFrame := c.rxFrame.set 0 hdr },
      scanAnswer_header_readframe (s := s.withContents c) fun h4' => h4 (hop.trans h4'),
      hides_goto _ hop (hides_storeHeader hop h)⟩
  · exact ⟨c, scanAnswer_noSync (s := s.withContents c) hh hn, hides_complete _ hcount⟩
  · exact ⟨c, scanAnswer_empty (s := s.withContents c) hn, hides_goto _ hop hcount⟩
  · exact ⟨c, (scanAnswer_miss (s := s.withContents c) hb hn).trans (nextAttempt_withContents c s.countAttempt),
      hides_nextAttempt hop hcount⟩

/-- Two frames with the same header agree on every byte that a body then writes. -/
theorem withBody_getElem_eq {f g : RespFrame} {bs : List Byte} (h0 : f[0] = g[0]) (i : Fin 10) (hi : i.val ≤ bs.length) :
    (withBody f bs)[i] = (withBody g bs)[i] := by
  simp only [Fin.getElem_fin, withBody_getElem]
  by_cases hz : i.val = 0
  · simpa [hz] using h0
  · have hlt : i.val - 1 < bs.length := by omega
    simp [hz, hlt]

/-- The body is stored over whatever its bytes held; byte 0, the header, was held. -/
theorem hides_storeBody {bs : List Byte} (hop : s.curOp = c.curOp) (hrx : s.rxLen = 1) (hlen : bs.length ≤ 9) (h : s.Hides c) :
    (s.storeBody bs).Hides { c with rxFrame := withBody c.rxFrame bs } := by
  have h0 : s.rxFrame[0] = c.rxFrame[0] := h.rxFrame 0 (by simp [hrx])
  refine ⟨fun _ => hop, fun i hi => withBody_getElem_eq h0 i ?_, h.txFrame, h.cksumOut, h.reading⟩
  simp only [State.storeBody_rxLen, BitVec.toNat_ofNat] at hi
  omega

/-- A complete body leaves nothing of the frame hidden, so the strict check gives the same. -/
theorem checksumBad_withContents {bs : List Byte} (h0 : s.rxFrame[0] = c.rxFrame[0]) (hlen : 9 ≤ bs.length) :
    ((s.withContents c).storeBody bs).checksumBad = (s.storeBody bs).checksumBad := by
  have hframe : withBody c.rxFrame bs = withBody s.rxFrame bs :=
    Vector.ext fun i hi => withBody_getElem_eq h0.symm ⟨i, hi⟩ (show i ≤ bs.length by omega)
  exact congrArg (fun f => s.params.strictChecksum && respChecksum f != f[8]) hframe

/-- The body's read-answer step reads no hidden contents: the strict check comes after a complete body. -/
theorem bodyAnswer_withContents {ans : Received} (hop : s.curOp = c.curOp) (hrx : s.rxLen = 1)
    (hans : ∀ bs, ans = .bytes bs → bs.length ≤ 9) (h : s.Hides c) :
    ∃ d, (s.withContents c).bodyAnswer ans = (s.bodyAnswer ans).withContents d ∧ (s.bodyAnswer ans).Hides d := by
  have h0 : s.rxFrame[0] = c.rxFrame[0] := h.rxFrame 0 (by simp [hrx])
  cases ans with
  | error => exact ⟨c, rfl, hides_complete _ h⟩
  | bytes bs =>
    have hstored := hides_storeBody hop hrx (hans bs rfl) h
    refine ⟨{ c with rxFrame := withBody c.rxFrame bs }, ?_⟩
    by_cases hlen : bs.length < 9
    · rw [bodyAnswer_short hlen, bodyAnswer_short hlen]
      exact ⟨rfl, hides_complete _ hstored⟩
    · have hlen := Nat.le_of_not_lt hlen
      have hck := checksumBad_withContents h0 hlen
      cases hbad : (s.storeBody bs).checksumBad with
      | true =>
        rw [bodyAnswer_mismatch hlen hbad, bodyAnswer_mismatch hlen (hck.trans hbad)]
        exact ⟨rfl, hides_complete _ hstored⟩
      | false =>
        rw [bodyAnswer_accepted hlen hbad, bodyAnswer_accepted hlen (hck.trans hbad)]
        exact ⟨rfl, nofun, hstored.rxFrame, hstored.txFrame, hstored.cksumOut, hstored.reading⟩

/-! ## The accept step -/

/-- A request's accept step reads no register that may be without a value, and holds what it writes. -/
theorem exec_withContents (i : Instr) (h : s.Hides c) : outcomesAgree SameHeld (exec i s) (exec i (s.withContents c)) := by
  obtain ⟨-, hrx, htx, hck, hrd⟩ := h
  cases i with
  | encode cmd n l =>
    by_cases hst : commandStatus s.params cmd n = .ok
    · exact agree_of_hides (c := { c with curOp := 1, txFrame := buildFrame cmd (opnd n l) }) (exec_encode_ok hst)
        (exec_encode_ok (s := s.withContents c) hst) ⟨nofun, hrx, fun _ => rfl, hck, hrd⟩
    · exact agree_of_hides (c := { c with curOp := 1 }) (exec_encode_failed rfl hst)
        (exec_encode_failed (s := s.withContents c) rfl hst) ⟨nofun, hrx, htx, hck, hrd⟩
  | cksumC cmd n l =>
    by_cases hst : commandStatus s.params cmd n = .ok
    · exact agree_of_hides (c := { c with curOp := 2, cksumOut := cmdChecksum cmd (opnd n l) }) (exec_cksumC_ok hst)
        (exec_cksumC_ok (s := s.withContents c) hst) ⟨nofun, hrx, htx, fun _ => rfl, hrd⟩
    · exact agree_of_hides (c := { c with curOp := 2 }) (exec_cksumC_failed rfl hst)
        (exec_cksumC_failed (s := s.withContents c) rfl hst) ⟨nofun, hrx, htx, hck, hrd⟩
  | cksumR cmd n l =>
    exact agree_of_hides (c := { c with curOp := 3, cksumOut := respChecksumOpnd (opnd n l) }) exec_cksumR
      exec_cksumR ⟨nofun, hrx, htx, fun _ => rfl, hrd⟩
  | findstart cmd n l =>
    exact agree_of_hides (c := { c with curOp := 4 }) exec_findstart exec_findstart ⟨fun _ => rfl, nofun, htx, hck, hrd⟩
  | readframe cmd n l =>
    exact agree_of_hides (c := { c with curOp := 5 }) exec_readframe exec_readframe ⟨fun _ => rfl, nofun, htx, hck, hrd⟩
  | decode cmd n l =>
    by_cases hst : decodeStatus n (opnd n l) = .ok
    · exact agree_of_hides (c := { c with curOp := 6, pm25Raw := pm25Of (opnd n l), pm10Raw := pm10Of (opnd n l) })
        (exec_decode_ok hst) (exec_decode_ok hst) ⟨nofun, hrx, htx, hck, fun _ => ⟨rfl, rfl⟩⟩
    · exact agree_of_hides (c := { c with curOp := 6 }) (exec_decode_failed rfl hst)
        (exec_decode_failed rfl hst) ⟨nofun, hrx, htx, hck, hrd⟩

/-- So does the accept of an illegal word. -/
theorem acceptRequest_withContents (h : s.Hides c) :
    outcomesAgree SameHeld (acceptRequest s) (acceptRequest (s.withContents c)) := by
  have hports : Sys2Proof.decode (s.withContents c).pins.reqCtrl (s.withContents c).pins.reqPayload =
      Sys2Proof.decode s.pins.reqCtrl s.pins.reqPayload := rfl
  cases hd : Sys2Proof.decode s.pins.reqCtrl s.pins.reqPayload with
  | ok i =>
    simp only [acceptRequest, hports, hd]
    exact exec_withContents i h
  | error e =>
    simp only [acceptRequest, hports, hd]
    exact agree_of_hides (c := { c with curOp := ctrlOp s.pins.reqCtrl }) rfl rfl
      ⟨nofun, h.rxFrame, h.txFrame, h.cksumOut, h.reading⟩

/-! ## Every move -/

/-- With no read outstanding there is nothing to answer, whatever the hidden contents are. -/
theorem agree_of_not_reading (a : Answer) (hscan : s.fsm ≠ .scanReq) (hbody : s.fsm ≠ .bodyReq) (h : s.Hides c) :
    outcomesAgree SameHeld (applyMove (.answer a) s) (applyMove (.answer a) (s.withContents c)) :=
  agree_of_hides (applyMove_answer_of_not_reading a hscan hbody)
    (applyMove_answer_of_not_reading (s := s.withContents c) a hscan hbody) h

/-- Every move does the same whatever the hidden contents are. -/
theorem applyMove_withContents (m : Move) (hinv : s.Inv) (h : s.Hides c) :
    outcomesAgree SameHeld (applyMove m s) (applyMove m (s.withContents c)) := by
  obtain ⟨-, ⟨-, -, -, -, -, hbody⟩, -, -⟩ := hinv
  cases m with
  | accept =>
    have hacc : (s.withContents c).canAccept = s.canAccept := rfl
    cases hc : s.canAccept with
    | false =>
      exact agree_of_hides (applyMove_accept_of_not_canAccept hc) (applyMove_accept_of_not_canAccept (hacc.trans hc)) h
    | true => simpa only [applyMove, hacc, hc, if_true] using acceptRequest_withContents h
  | answer a =>
    cases hr : s.pins.rst with
    | true => exact agree_of_hides (applyMove_answer_of_rst a hr) (applyMove_answer_of_rst (s := s.withContents c) a hr) h
    | false =>
      cases hf : s.fsm with
      | scanReq =>
        have hop : (s.deliver 1 a).2.curOp = c.curOp := by simpa using h.curOp (by simp [hf])
        obtain ⟨d, hd, hhides⟩ := scanAnswer_withContents (s.deliver 1 a).1 hop (hides_deliver 1 a h)
        refine agree_of_hides (applyMove_answer_scanReq a hf hr) ?_ hhides
        rw [applyMove_answer_scanReq (s := s.withContents c) a hf hr, deliver_withContents, hd]
      | bodyReq =>
        have hop : (s.deliver 9 a).2.curOp = c.curOp := by simpa using h.curOp (by simp [hf])
        have hlen : (s.deliver 9 a).2.rxLen = 1 := by simpa using (hbody hf).2.2
        obtain ⟨d, hd, hhides⟩ := bodyAnswer_withContents hop hlen (fun _ => deliver_length_le) (hides_deliver 9 a h)
        refine agree_of_hides (applyMove_answer_bodyReq a hf hr) ?_ hhides
        rw [applyMove_answer_bodyReq (s := s.withContents c) a hf hr, deliver_withContents, hd]
      | idle => exact agree_of_not_reading a (by simp [hf]) (by simp [hf]) h
      | backoff => exact agree_of_not_reading a (by simp [hf]) (by simp [hf]) h
  | expire =>
    cases hr : s.pins.rst with
    | true => exact agree_of_hides (applyMove_expire_of_rst hr) (applyMove_expire_of_rst (s := s.withContents c) hr) h
    | false =>
      by_cases hf : s.fsm = .backoff
      · have hop : s.curOp = c.curOp := h.curOp (by simp [hf])
        refine agree_of_hides (applyMove_expire_backoff hf hr) ?_ (hides_nextAttempt hop h)
        rw [applyMove_expire_backoff (s := s.withContents c) hf hr, nextAttempt_withContents]
      · exact agree_of_hides (applyMove_expire_of_ne_backoff hf) (applyMove_expire_of_ne_backoff (s := s.withContents c) hf) h
  | reset lost =>
    have hrst : (s.withContents c).pins.rst = s.pins.rst := rfl
    cases hr : s.pins.rst with
    | false => simpa [applyMove, hrst, hr] using agree_of_hides rfl rfl h
    | true =>
      simp only [applyMove, hrst, hr, if_true]
      exact agree_of_hides (c := ⟨0, Vector.replicate 10 0, Vector.replicate 19 0, 0, 0, 0⟩) rfl rfl
        ⟨nofun, nofun, nofun, nofun, nofun⟩
  | arrive bs => exact agree_of_hides (c := c) rfl rfl ⟨h.curOp, h.rxFrame, h.txFrame, h.cksumOut, h.reading⟩
  | drive p => exact agree_of_hides (c := c) rfl rfl ⟨h.curOp, h.rxFrame, h.txFrame, h.cksumOut, h.reading⟩
  | hostRead r =>
    cases hr : s.readOut r with
    | ok v =>
      have hr' := (readOut_withContents h r).symm.trans hr
      simpa only [applyMove, hr, hr'] using agree_of_hides rfl rfl h
    | error f =>
      have hr' := (readOut_withContents h r).symm.trans hr
      simp [applyMove, hr, hr', outcomesAgree]

/-- Settles O46: `SameHeld` is a choice of hidden contents, which no read, no choice of the next move and no move depends on. -/
theorem valuelessRegistersAreNeverSeen : Obligations.ValuelessRegistersAreNeverSeen := by
  intro s t hinv _ hst
  obtain ⟨c, rfl, h⟩ := sameHeld_iff.1 hst
  refine ⟨readOut_withContents h, ?_⟩
  obtain ⟨ag, dr, htake, hstep⟩ := step_eq s
  have htake' := takeMove_map (s := s) (State.withContents c) rfl rfl rfl rfl fun _ _ => rfl
  rw [hstep, step, htake', htake]
  exact applyMove_withContents (s := { s with agenda := ag, draws := dr }) _ hinv
    ⟨h.curOp, h.rxFrame, h.txFrame, h.cksumOut, h.reading⟩

end Sys2Proof.Machine
end

section
/-! PROOFS. What the moves do not depend on: the agenda behind the next move (log entry 3), the value of BACKOFF
(00_scope.md R6), and CANCEL where it is not sampled (60_exceptions.md section 2). -/

namespace Sys2Proof.Machine

variable {s t : State} {m : Move}

/-! ## Changes outside the block that its steps do not see -/

/-- A change of the lines, the parameters and the agenda that keeps every line and parameter a step of the block reads, but
for CANCEL. -/
structure OutsideMap where
  pins : HostPins → HostPins
  params : Params → Params
  agenda : List Move → List Move
  rst : ∀ p, (pins p).rst = p.rst
  reqValid : ∀ p, (pins p).reqValid = p.reqValid
  reqCtrl : ∀ p, (pins p).reqCtrl = p.reqCtrl
  reqPayload : ∀ p, (pins p).reqPayload = p.reqPayload
  scanBudget : ∀ p, (params p).scanBudget = p.scanBudget
  strictChecksum : ∀ p, (params p).strictChecksum = p.strictChecksum
  allowAnyCmd : ∀ p, (params p).allowAnyCmd = p.allowAnyCmd

/-- The machine with such a change. -/
def State.outside (f : OutsideMap) (s : State) : State :=
  { s with pins := f.pins s.pins, params := f.params s.params, agenda := f.agenda s.agenda }

/-- The change of the level of CANCEL. -/
def OutsideMap.cancel (b : Bool) : OutsideMap :=
  ⟨fun p => { p with cancel := b }, id, id, fun _ => rfl, fun _ => rfl, fun _ => rfl, fun _ => rfl, fun _ => rfl,
    fun _ => rfl, fun _ => rfl⟩

/-- The change of the value of BACKOFF. -/
def OutsideMap.backoff (ms : Nat) : OutsideMap :=
  ⟨id, fun p => { p with backoffMs := ms }, id, fun _ => rfl, fun _ => rfl, fun _ => rfl, fun _ => rfl, fun _ => rfl,
    fun _ => rfl, fun _ => rfl⟩

/-- The change of the agenda. -/
def OutsideMap.setAgenda (ag : List Move) : OutsideMap :=
  ⟨id, id, fun _ => ag, fun _ => rfl, fun _ => rfl, fun _ => rfl, fun _ => rfl, fun _ => rfl, fun _ => rfl, fun _ => rfl⟩

variable (f : OutsideMap)

/-! ## The accept step -/

theorem canAccept_outside (s : State) : (s.outside f).canAccept = s.canAccept := by
  simp only [State.canAccept, State.outside, f.rst, f.reqValid]
  rfl

theorem commandStatus_outside (p : Params) (cmd plen : Byte) :
    commandStatus (f.params p) cmd plen = commandStatus p cmd plen := by
  rw [commandStatus, commandStatus, cmdOK, cmdOK, f.allowAnyCmd]

/-- A request's accept step reads of the outside only the command's validity. -/
theorem exec_outside (i : Instr) (s : State) : exec i (s.outside f) = mapNext (State.outside f) (exec i s) := by
  cases i with
  | encode cmd n l =>
    have hout := commandStatus_outside f s.params cmd n
    by_cases hst : commandStatus s.params cmd n = .ok
    · rw [exec_encode_ok hst]
      exact exec_encode_ok (s := s.outside f) (hout.trans hst)
    · rw [exec_encode_failed rfl hst]
      exact exec_encode_failed (s := s.outside f) hout hst
  | cksumC cmd n l =>
    have hout := commandStatus_outside f s.params cmd n
    by_cases hst : commandStatus s.params cmd n = .ok
    · rw [exec_cksumC_ok hst]
      exact exec_cksumC_ok (s := s.outside f) (hout.trans hst)
    · rw [exec_cksumC_failed rfl hst]
      exact exec_cksumC_failed (s := s.outside f) hout hst
  | cksumR cmd n l => rfl
  | findstart cmd n l => rfl
  | readframe cmd n l => rfl
  | decode cmd n l =>
    by_cases hst : decodeStatus n (opnd n l) = .ok
    · rw [exec_decode_ok (s := s) hst]
      exact exec_decode_ok (s := s.outside f) hst
    · rw [exec_decode_failed (s := s) rfl hst]
      exact exec_decode_failed (s := s.outside f) rfl hst

theorem acceptRequest_outside (s : State) :
    acceptRequest (s.outside f) = mapNext (State.outside f) (acceptRequest s) := by
  have hctrl : (s.outside f).pins.reqCtrl = s.pins.reqCtrl := f.reqCtrl s.pins
  have hpay : (s.outside f).pins.reqPayload = s.pins.reqPayload := f.reqPayload s.pins
  rw [acceptRequest, acceptRequest, hctrl, hpay]
  cases Sys2Proof.decode s.pins.reqCtrl s.pins.reqPayload with
  | ok i => exact exec_outside f i s
  | error e => rfl

/-! ## The scan and the body -/

theorem nextCount_outside (p : Params) (n : Nat) : nextCount (f.params p) n = nextCount p n := by
  simp only [nextCount, attemptsWidth, f.scanBudget]

theorem countAttempt_outside (s : State) : (s.outside f).countAttempt = s.countAttempt.outside f := by
  rw [State.countAttempt, State.outside, nextCount_outside]
  rfl

theorem nextAttempt_outside (hc : (f.pins s.pins).cancel = s.pins.cancel) :
    (s.outside f).nextAttempt = s.nextAttempt.outside f := by
  have hc' : (s.outside f).pins.cancel = s.pins.cancel := hc
  rw [nextAttempt_eq, nextAttempt_eq, hc', apply_ite (State.outside f)]
  rfl

theorem checksumBad_outside (s : State) : (s.outside f).checksumBad = s.checksumBad := by
  simp only [State.checksumBad, State.outside, f.strictChecksum]

theorem bodyAnswer_outside (ans : Received) (s : State) : (s.outside f).bodyAnswer ans = (s.bodyAnswer ans).outside f := by
  cases ans with
  | error => rfl
  | bytes bs =>
    have hck : ((s.outside f).storeBody bs).checksumBad = (s.storeBody bs).checksumBad :=
      checksumBad_outside f (s.storeBody bs)
    by_cases hlen : bs.length < 9
    · rw [bodyAnswer_short hlen, bodyAnswer_short hlen]
      rfl
    · have hlen := Nat.le_of_not_lt hlen
      cases hbad : (s.storeBody bs).checksumBad with
      | true =>
        rw [bodyAnswer_mismatch hlen hbad, bodyAnswer_mismatch hlen (hck.trans hbad)]
        rfl
      | false =>
        rw [bodyAnswer_accepted hlen hbad, bodyAnswer_accepted hlen (hck.trans hbad)]
        rfl

/-- The moves that sample CANCEL (60_exceptions.md section 2): a backoff expiry, and the answer that brings a miss. -/
def samplesCancel (m : Move) (s : State) : Prop :=
  (m = .expire ∧ s.fsm = .backoff) ∨
  ((∃ len, m = .answer (.bytes (len + 1))) ∧ s.fsm = .scanReq ∧ ∃ x rest, s.pending = x :: rest ∧ x ≠ 0xAA)

/-- The answer to the scan's read, by what it brings; only a miss samples CANCEL. -/
theorem applyMove_answer_scanReq_outside (a : Answer) (hf : s.fsm = .scanReq) (hr : s.pins.rst = false)
    (hcancel : samplesCancel (.answer a) s → (f.pins s.pins).cancel = s.pins.cancel) :
    applyMove (.answer a) (s.outside f) = mapNext (State.outside f) (applyMove (.answer a) s) := by
  have hf' : (s.outside f).fsm = .scanReq := hf
  have hr' : (s.outside f).pins.rst = false := (f.rst s.pins).trans hr
  have hn : nextCount (s.outside f).params (s.outside f).attempts = nextCount s.params s.attempts :=
    nextCount_outside f s.params s.attempts
  have hb : (s.outside f).params.scanBudget = s.params.scanBudget := f.scanBudget s.params
  cases a with
  | error lost =>
    rw [applyMove_answer_error_scanReq hf' hr', applyMove_answer_error_scanReq hf hr]
    rfl
  | bytes len =>
    cases hp : s.pending with
    | nil =>
      rw [applyMove_answer_none hf' hr' (.inr hp), applyMove_answer_none hf hr (.inr hp), hn, hb, mapNext,
        apply_ite (State.outside f)]
      rfl
    | cons b rest =>
      cases len with
      | zero =>
        rw [applyMove_answer_none hf' hr' (.inl rfl), applyMove_answer_none hf hr (.inl rfl), hn, hb, mapNext,
          apply_ite (State.outside f)]
        rfl
      | succ len =>
        have hlen : 1 ≤ len + 1 := Nat.le_add_left 1 len
        by_cases hh : b = hdr
        · subst hh
          rw [applyMove_answer_header hf' hr' hlen hp, applyMove_answer_header hf hr hlen hp, hn, mapNext,
            apply_ite (State.outside f)]
          rfl
        · have hc := hcancel (.inr ⟨⟨len, rfl⟩, hf, b, rest, hp, hh⟩)
          have hnext := nextAttempt_outside (s := { s with pending := rest }.countAttempt) f hc
          rw [← countAttempt_outside] at hnext
          rw [applyMove_answer_miss hf' hr' hlen hp hh, applyMove_answer_miss hf hr hlen hp hh, hn, hb, mapNext,
            apply_ite (State.outside f), ← hnext]
          rfl

/-! ## Every move -/

/-- With no read outstanding there is nothing to answer, after the change too. -/
theorem applyMove_answer_outside_of_not_reading (a : Answer) (hscan : s.fsm ≠ .scanReq) (hbody : s.fsm ≠ .bodyReq) :
    applyMove (.answer a) (s.outside f) = mapNext (State.outside f) (applyMove (.answer a) s) := by
  rw [applyMove_answer_of_not_reading a hscan hbody]
  exact applyMove_answer_of_not_reading (s := s.outside f) a hscan hbody

/-- Every move does the same after the change, where it does not overwrite the change and does not sample a changed CANCEL. -/
theorem applyMove_outside (m : Move) (s : State) (hdrive : ∀ p, m = .drive p → f.pins p = p)
    (hcancel : samplesCancel m s → (f.pins s.pins).cancel = s.pins.cancel) :
    applyMove m (s.outside f) = mapNext (State.outside f) (applyMove m s) := by
  have hrst : (s.outside f).pins.rst = s.pins.rst := f.rst s.pins
  cases m with
  | accept =>
    rw [applyMove, applyMove, canAccept_outside, acceptRequest_outside]
    split <;> rfl
  | answer a =>
    cases hr : s.pins.rst with
    | true =>
      rw [applyMove_answer_of_rst a hr, applyMove_answer_of_rst a (hrst.trans hr)]
      rfl
    | false =>
      cases hf : s.fsm with
      | scanReq => exact applyMove_answer_scanReq_outside f a hf hr hcancel
      | bodyReq =>
        have hdeliver : (s.outside f).deliver 9 a = ((s.deliver 9 a).1, (s.deliver 9 a).2.outside f) := by cases a <;> rfl
        rw [applyMove_answer_bodyReq a hf hr, applyMove_answer_bodyReq (s := s.outside f) a hf (hrst.trans hr), hdeliver,
          bodyAnswer_outside]
        rfl
      | idle => exact applyMove_answer_outside_of_not_reading f a (by simp [hf]) (by simp [hf])
      | backoff => exact applyMove_answer_outside_of_not_reading f a (by simp [hf]) (by simp [hf])
  | expire =>
    cases hr : s.pins.rst with
    | true =>
      rw [applyMove_expire_of_rst hr, applyMove_expire_of_rst (hrst.trans hr)]
      rfl
    | false =>
      by_cases hf : s.fsm = .backoff
      · rw [applyMove_expire_backoff hf hr, applyMove_expire_backoff (s := s.outside f) hf (hrst.trans hr),
          nextAttempt_outside f (hcancel (.inl ⟨rfl, hf⟩))]
        rfl
      · rw [applyMove_expire_of_ne_backoff hf, applyMove_expire_of_ne_backoff (s := s.outside f) hf]
        rfl
  | reset lost =>
    rw [applyMove, applyMove, hrst, mapNext, apply_ite (State.outside f)]
    rfl
  | arrive bs => rfl
  | drive p =>
    rw [applyMove, applyMove, mapNext, State.outside, State.outside, hdrive p rfl]
  | hostRead r =>
    have hread : (s.outside f).readOut r = s.readOut r := by cases r <;> rfl
    rw [applyMove, applyMove, hread]
    cases s.readOut r <;> rfl

/-- Settles O25: a change of CANCEL is a change outside the block, and only the two excepted moves sample it. -/
theorem cancelSampledOnlyBetweenAttempts : Obligations.CancelSampledOnlyBetweenAttempts := by
  intro m s b hdrive hexpire hmiss
  refine applyMove_outside (.cancel b) m s (fun p hp => absurd hp (hdrive p)) fun hsamples => ?_
  obtain h | h := hsamples
  · exact absurd h hexpire
  · exact absurd h hmiss

/-- Settles O52: a change of BACKOFF is a change outside the block that leaves the lines and the choice of the next move. -/
theorem backoffValueIsIrrelevant : Obligations.BackoffValueIsIrrelevant := by
  intro s ms
  have htake := takeMove_map (s := s) (State.withBackoff ms) rfl rfl rfl rfl fun _ _ => rfl
  rw [step, step, htake]
  exact applyMove_outside (.backoff ms) _ _ (fun _ _ => rfl) fun _ => rfl

/-- A move does the same whatever is behind it in the agenda. -/
theorem applyMove_setAgenda (m : Move) (s : State) (ag : List Move) :
    applyMove m { s with agenda := ag } = mapNext (fun t => { t with agenda := ag }) (applyMove m s) :=
  applyMove_outside (.setAgenda ag) m s (fun _ _ => rfl) fun _ => rfl

/-! ## The agenda and the step -/

/-- A run whose first step is a fault stops there. -/
theorem run_succ_fault {r : Fault} (n : Nat) (h : step s = .fault r) : core.run (n + 1) s = .fault r := by
  have h' : core.step s = .fault r := h
  simp only [Host.Core.run, h']

/-- A run whose first step is refused stops there. -/
theorem run_succ_refused {r : Refusal} (n : Nat) (h : step s = .refused r) : core.run (n + 1) s = .refused r := by
  have h' : core.step s = .refused r := h
  simp only [Host.Core.run, h']

/-- Settles O36: by induction on the list, the first move being the step and the rest a run from its next state. -/
theorem agendaRunsAnyMoves : Obligations.AgendaRunsAnyMoves := by
  intro ms rest s
  induction ms generalizing s with
  | nil => rfl
  | cons m ms ih =>
    have hstep : step { s with agenda := m :: ms ++ rest } =
        mapNext (fun t => { t with agenda := ms ++ rest }) (applyMove m s) := by
      rw [step_agenda (m := m) (rest := ms ++ rest) rfl]
      exact applyMove_setAgenda m s (ms ++ rest)
    cases hm : applyMove m s with
    | next t =>
      rw [hm] at hstep
      rw [List.length_cons, run_succ _ hstep, applyMoves_cons ms hm]
      exact ih t
    | fault r =>
      rw [hm] at hstep
      rw [List.length_cons, run_succ_fault _ hstep, applyMoves, hm]
      rfl
    | refused r =>
      rw [hm] at hstep
      rw [List.length_cons, run_succ_refused _ hstep, applyMoves, hm]
      rfl

/-- Settles O20: `exec` is what an enabled accept of a legal word runs, and with an empty agenda it comes first. -/
theorem stepRunsDecodedRequest : Obligations.StepRunsDecodedRequest := by
  refine ⟨fun s s' i htake hacc hdec => ?_, takeMove_state, fun s hag hacc => ?_⟩
  · simp [step, htake, applyMove, hacc, acceptRequest, hdec]
  · obtain ⟨hrst, -⟩ := (canAccept_iff s).1 hacc
    simp [State.takeMove, hag, hrst, hacc]

/-- A decoded table word is the request that its control word and lanes put on the port. -/
theorem decode_of_decodeTableWord {nbits w : Nat} {i : Instr} (h : decodeTableWord nbits w = some i) :
    Sys2Proof.decode (tableCtrl nbits w) (tableLanes nbits w) = .ok i := by
  unfold decodeTableWord at h
  split at h
  next hd => rw [hd, Option.some.inj h]
  next => cases h

/-- The presented request's accept is the next move, and it leaves the agenda that stood there before. -/
theorem takeMove_presentNext (r : Request) (s : State) :
    (s.presentNext r).takeMove = (.accept, { s.presentNext r with agenda := s.agenda }) := by
  cases hag : s.agenda with
  | nil => simp [State.takeMove, State.presentNext, hag, State.canAccept, State.reqReady]
  | cons m rest => simp [State.takeMove, State.presentNext, hag]

/-- Settles O21: the presented word is on the port of a block that can accept it, and its accept is the next move. -/
theorem fetchWordRunsNext : Obligations.FetchWordRunsNext := by
  intro s nbits w i h
  exact stepRunsDecodedRequest.1 _ _ i (takeMove_presentNext _ s) rfl (decode_of_decodeTableWord h)

end Sys2Proof.Machine
end

section
/-! PROOFS. The read port and the stream (10_state.md R31, R37, 20_memory.md R51, R52, R57), and the width of ATTEMPTS
(00_scope.md R7). -/

namespace Sys2Proof.Machine

variable {s t : State} {m : Move}

/-! ## The read port -/

/-- Settles O30: by the FSM states. -/
theorem outstandingReadFollowsFsm : Obligations.OutstandingReadFollowsFsm := by
  intro s
  cases hf : s.fsm <;> simp [State.rdReq, State.outstanding, bodyLen, hf]

/-! ## What the FSM state waits for -/

/-- The moves that take an operation in progress further (R243): the answer to the outstanding read, or the end of the wait. -/
def FsmState.waitsFor : FsmState → Move → Prop
  | .scanReq, m => ∃ a, m = .answer a
  | .bodyReq, m => ∃ a, m = .answer a
  | .backoff, m => m = .expire
  | .idle, _ => False

/-- With RST = 0, a move that a busy block does not wait for changes no register of it. -/
theorem sameBlock_of_not_awaited (hbusy : s.busy = true) (hr : s.pins.rst = false) (hm : ¬ s.fsm.waitsFor m)
    (h : applyMove m s = .next t) : SameBlock s t := by
  have hidle : s.fsm ≠ .idle := by simpa [State.busy] using hbusy
  obtain rfl | ⟨-, hc, -⟩ | ⟨-, hc, -⟩ | ⟨a, rfl, -, hf, -⟩ | ⟨a, rfl, -, hf, -⟩ | ⟨rfl, -, hf, -⟩ | ⟨-, -, hrst, -⟩ |
    ⟨bs, -, rfl⟩ | ⟨p, -, rfl⟩ := applyMove_cases h
  · simp [SameBlock]
  · exact absurd ((canAccept_iff s).1 hc).2.2.1 hidle
  · exact absurd ((canAccept_iff s).1 hc).2.2.1 hidle
  · exact absurd ⟨a, rfl⟩ (hf ▸ hm)
  · exact absurd ⟨a, rfl⟩ (hf ▸ hm)
  · exact absurd rfl (hf ▸ hm)
  · simp [hr] at hrst
  · simp [SameBlock]
  · simp [SameBlock]

/-- Settles O26: with a read outstanding the block waits for an answer. -/
theorem onlyAnswerMovesAReadingBlock : Obligations.OnlyAnswerMovesAReadingBlock := by
  intro s t m hreading hr hm h
  obtain hf | hf := hreading
  · exact sameBlock_of_not_awaited (busy_of_fsm hf nofun) hr (by simpa [hf, FsmState.waitsFor] using hm) h
  · exact sameBlock_of_not_awaited (busy_of_fsm hf nofun) hr (by simpa [hf, FsmState.waitsFor] using hm) h

/-! ## The stream -/

/-- An ERROR, by the number of bytes it loses. -/
theorem deliver_error_eq {n lost k : Nat} (hk : k = min (min lost n) s.pending.length) :
    s.deliver n (.error lost) = (.error, { s with pending := s.pending.drop k }) := by
  rw [deliver_error, hk, ← List.drop_eq_drop_min]

/-- Settles O29: a draw is cut off at `n` and at what is pending, and a draw within both is not cut off. -/
theorem answersAreTheAdmittedOnes : Obligations.AnswersAreTheAdmittedOnes := by
  intro n s
  refine ⟨fun a => ?_, fun k hn hk => ⟨⟨.bytes k, ?_⟩, ⟨.error k, ?_⟩⟩⟩
  · cases a with
    | bytes len =>
      exact ⟨min (min len n) s.pending.length, (Nat.min_le_left ..).trans (Nat.min_le_right ..), Nat.min_le_right ..,
        .inl (deliver_bytes_eq rfl)⟩
    | error lost =>
      exact ⟨min (min lost n) s.pending.length, (Nat.min_le_left ..).trans (Nat.min_le_right ..), Nat.min_le_right ..,
        .inr (deliver_error_eq rfl)⟩
  · exact deliver_bytes_eq (by omega)
  · exact deliver_error_eq (by omega)

/-- A delivery to `StreamRead(n)` leaves the stream without up to `n` bytes of its head. -/
theorem deliver_pending (n : Nat) (a : Answer) (s : State) : ∃ k ≤ n, (s.deliver n a).2.pending = s.pending.drop k := by
  obtain ⟨k, hk, hd, -⟩ := deliver_cases n a s
  exact ⟨k, hk, by rw [hd]⟩

/-- What a move does to the stream: the outstanding read's answer and the reset take from its head, an arrival adds at its
end. -/
theorem applyMove_pending (h : applyMove m s = .next t) : ∃ (k : Nat) (arrived : List Byte),
    t.pending = s.pending.drop k ++ arrived ∧ k ≤ s.outstanding ∧
    (0 < k → (∃ a, m = .answer a) ∨ ((∃ lost, m = .reset lost) ∧ s.pins.rst = true)) ∧
    (arrived ≠ [] → m = .arrive arrived ∧ k = 0) := by
  obtain rfl | ⟨-, -, i, -, hi⟩ | ⟨-, -, -, rfl⟩ | ⟨a, rfl, -, hf, rfl⟩ | ⟨a, rfl, -, hf, rfl⟩ | ⟨-, -, -, rfl⟩ |
    ⟨lost, rfl, hrst, rfl⟩ | ⟨bs, rfl, rfl⟩ | ⟨p, -, rfl⟩ := applyMove_cases h
  · exact ⟨0, [], by simp⟩
  · obtain ⟨u, hu, -, hpending, -⟩ := exec_next i s
    obtain rfl : t = u := next_eq_iff.1 (hi.symm.trans hu)
    exact ⟨0, [], by simp [hpending]⟩
  · exact ⟨0, [], by simp⟩
  · obtain ⟨k, hk, hp⟩ := deliver_pending 1 a s
    exact ⟨k, [], by simp [hp], by simpa [State.outstanding, hf] using hk, fun _ => .inl ⟨a, rfl⟩, by simp⟩
  · obtain ⟨k, hk, hp⟩ := deliver_pending 9 a s
    exact ⟨k, [], by simp [hp], by simpa [State.outstanding, hf, bodyLen] using hk, fun _ => .inl ⟨a, rfl⟩, by simp⟩
  · exact ⟨0, [], by simp⟩
  · exact ⟨min lost s.outstanding, [], by simp, Nat.min_le_right .., fun _ => .inr ⟨⟨lost, rfl⟩, hrst⟩, by simp⟩
  · exact ⟨0, bs, by simp⟩
  · exact ⟨0, [], by simp⟩

/-- Settles O31: taking a move leaves the stream, and each move takes and adds bytes as it may. -/
theorem streamTakenFromHeadInOrder : Obligations.StreamTakenFromHeadInOrder := by
  intro s t h
  obtain ⟨ag, dr, -, hstep⟩ := step_eq s
  rw [hstep] at h
  exact applyMove_pending (s := { s with agenda := ag, draws := dr }) h

/-! ## ATTEMPTS -/

/-- A move leaves ATTEMPTS, counts it in its register, or clears it. -/
theorem applyMove_attempts (h : applyMove m s = .next t) :
    t.attempts = s.attempts ∨ t.attempts = nextCount s.params s.attempts ∨ t.attempts = 0 := by
  obtain rfl | ⟨-, -, i, -, hi⟩ | ⟨-, -, -, rfl⟩ | ⟨a, -, -, -, rfl⟩ | ⟨a, -, -, -, rfl⟩ | ⟨-, -, -, rfl⟩ |
    ⟨lost, -, -, rfl⟩ | ⟨bs, -, rfl⟩ | ⟨p, -, rfl⟩ := applyMove_cases h
  · exact .inl rfl
  · obtain ⟨_, _, _, -, -, hu⟩ | ⟨_, _, _, -, -, hu⟩ | ⟨_, _, _, -, -, hu⟩ | ⟨_, _, _, -, -, hu⟩ | ⟨_, _, _, -, hu⟩ |
      ⟨_, _, _, -, hu⟩ | ⟨_, _, _, -, hu⟩ | ⟨_, _, _, -, -, hu⟩ | ⟨_, _, _, -, -, hu⟩ := exec_cases i s <;>
      obtain rfl := next_eq_iff.1 (hu.symm.trans hi) <;> simp
  · simp
  · obtain ⟨-, hu⟩ | ⟨_, -, -, hu⟩ | ⟨_, -, -, hu⟩ | ⟨_, -, -, -, hu⟩ | ⟨-, -, hu⟩ | ⟨_, _, -, -, -, hu⟩ :=
      scanAnswer_cases (s.deliver 1 a).1 (s.deliver 1 a).2 <;> simp [hu]
  · simp
  · simp
  · exact .inr (.inr rfl)
  · exact .inl rfl
  · exact .inl rfl

/-- The width of ATTEMPTS for a budget of at most 127. -/
theorem attemptsWidth_of_le {p : Params} (h : p.scanBudget ≤ 127) : attemptsWidth p = 7 :=
  Nat.max_eq_left (Nat.clog_le_of_le_pow (by omega))

/-- The width of ATTEMPTS for a budget above 127. -/
theorem attemptsWidth_of_lt {p : Params} (h : 127 < p.scanBudget) :
    attemptsWidth p = Nat.clog 2 (p.scanBudget + 1) := by
  refine Nat.max_eq_right ?_
  have hpow : 2 ^ 7 < 2 ^ Nat.clog 2 (p.scanBudget + 1) := by
    have hle := Nat.le_pow_clog (b := 2) (by omega) (p.scanBudget + 1)
    omega
  exact (Nat.pow_lt_pow_iff_right (by omega)).1 hpow |>.le

/-- Settles O51: the width holds the budget, and every move leaves ATTEMPTS, counts it modulo its size, or clears it. -/
theorem attemptsFitTheirRegister : Obligations.AttemptsFitTheirRegister := by
  refine ⟨fun p => ⟨scanBudget_lt_two_pow p, attemptsWidth_of_le, attemptsWidth_of_lt⟩, fun s t hfit h => ?_,
    fun s ⟨_, ⟨_, hle, _⟩, _⟩ => hle⟩
  have hparams := parametersAreFixed s t h
  obtain ⟨ag, dr, -, hstep⟩ := step_eq s
  rw [hstep] at h
  rw [hparams]
  obtain hsame | hcount | hzero := applyMove_attempts h
  · rw [hsame]; exact hfit
  · rw [hcount]; exact nextCount_lt _ _
  · rw [hzero]; exact Nat.two_pow_pos _

end Sys2Proof.Machine
end

section
/-! PROOFS. Host reads and stops (10_state.md R30, R31, 70_reset_and_hazards.md R239). -/

namespace Sys2Proof.Machine

variable {s t : State} {m : Move}

/-! ## Stops -/

/-- Every accept answers a next state: no request's meaning stops the machine. -/
theorem acceptRequest_next (s : State) : ∃ t, acceptRequest s = .next t := by
  unfold acceptRequest
  split
  next i _ =>
    obtain ⟨t, ht, -⟩ := exec_next i s
    exact ⟨t, ht⟩
  next => exact ⟨_, rfl⟩

/-- A host read changes nothing or is the fault of that read. -/
theorem applyMove_hostRead_ok {r : OutReg} {v : Nat} (h : s.readOut r = .ok v) : applyMove (.hostRead r) s = .next s := by
  rw [applyMove, h]

theorem applyMove_hostRead_error {r : OutReg} {f : Fault} (h : s.readOut r = .error f) :
    applyMove (.hostRead r) s = .fault f := by
  rw [applyMove, h]

/-- Every move but a host read answers a next state. -/
theorem applyMove_next (hm : ∀ r, m ≠ .hostRead r) : ∃ t, applyMove m s = .next t := by
  cases m with
  | accept =>
    cases hc : s.canAccept with
    | false => exact ⟨s, applyMove_accept_of_not_canAccept hc⟩
    | true => simpa [applyMove, hc] using acceptRequest_next s
  | hostRead r => exact absurd rfl (hm r)
  | _ => exact ⟨_, rfl⟩

/-- A move stops the machine exactly where it reads a register without a value. -/
theorem applyMove_stops (m : Move) (s : State) : (∀ r, applyMove m s ≠ .refused r) ∧
    ∀ f, applyMove m s = .fault f ↔ ∃ r, m = .hostRead r ∧ s.readOut r = .error f := by
  by_cases hm : ∃ r, m = .hostRead r
  · obtain ⟨r, rfl⟩ := hm
    cases hr : s.readOut r with
    | ok v => simp [applyMove_hostRead_ok hr, hr]
    | error f => simp [applyMove_hostRead_error hr, hr]
  · obtain ⟨t, ht⟩ := applyMove_next (s := s) (not_exists.1 hm)
    refine ⟨by simp [ht], fun f => ?_⟩
    rw [ht]
    exact iff_of_false nofun fun ⟨r, hr, _⟩ => hm ⟨r, hr⟩

/-- Settles O42: taking a move stops nothing and leaves every output, and only a host read stops. -/
theorem onlyHostReadsStop : Obligations.OnlyHostReadsStop := by
  intro s
  obtain ⟨ag, dr, -, hstep⟩ := step_eq s
  rw [hstep]
  exact applyMove_stops _ _

/-! ## Host reads -/

/-- Settles O45: each output is its register, a held element its value, and reset leaves no mark set and RX_LEN 0. -/
theorem hostReadOfNoValueFaults : Obligations.HostReadOfNoValueFaults := by
  refine ⟨fun s => ?_, fun s r => ⟨fun v => applyMove_hostRead_ok, fun f => applyMove_hostRead_error⟩, fun r => ?_⟩
  · have hbusy : s.readOut .busy = .ok (if s.fsm = .idle then 0 else 1) := by
      cases hf : s.fsm <;> simp [State.readOut, State.busy, hf]
    have hready : s.readOut .reqReady = .ok (if s.fsm = .idle ∧ s.fault = false then 1 else 0) := by
      cases hf : s.fsm <;> cases hv : s.fault <;> simp [State.readOut, State.reqReady, hf, hv]
    refine ⟨rfl, rfl, rfl, rfl, hbusy, hready, rfl, rfl, rfl, rfl, rfl, rfl, fun i => ?_, fun i => rfl, rfl, rfl, rfl⟩
    simp [State.readOut, heldOr]
  · cases r <;> simp [State.readOut, heldOr, State.reset]

/-! ## Allowed requests -/

/-- A command request sets FAULT exactly where its status is not OK. -/
theorem commandStatus_fatal_eq (p : Params) (cmd plen : Byte) :
    (commandStatus p cmd plen).fatal = !(commandStatus p cmd plen == .ok) := by
  obtain ⟨h, -⟩ | ⟨h, -⟩ | ⟨h, -⟩ := commandStatus_cases p cmd plen <;> rw [h] <;> rfl

/-- An enabled accept leaves FAULT = 1 exactly for a request that R239 does not allow. -/
theorem acceptRequest_fault (hf : s.fault = false) : ∃ t, acceptRequest s = .next t ∧
    t.fault = !requestAllowed s.params ⟨s.pins.reqCtrl, s.pins.reqPayload⟩ := by
  unfold acceptRequest requestAllowed
  cases hd : Sys2Proof.decode s.pins.reqCtrl s.pins.reqPayload with
  | error e => exact ⟨_, rfl, by simp [Status.fatal]⟩
  | ok i =>
    obtain ⟨c, n, l, rfl, hst, hu⟩ | ⟨c, n, l, rfl, hst, hu⟩ | ⟨c, n, l, rfl, hst, hu⟩ | ⟨c, n, l, rfl, hst, hu⟩ |
      ⟨c, n, l, rfl, hu⟩ | ⟨c, n, l, rfl, hu⟩ | ⟨c, n, l, rfl, hu⟩ | ⟨c, n, l, rfl, hst, hu⟩ | ⟨c, n, l, rfl, hst, hu⟩ :=
      exec_cases i s
    · exact ⟨_, hu, by simp [hf, hst, Status.fatal]⟩
    · exact ⟨_, hu, by rw [State.complete_fault, commandStatus_fatal_eq]; simp [hf]⟩
    · exact ⟨_, hu, by simp [hf, hst, Status.fatal]⟩
    · exact ⟨_, hu, by rw [State.complete_fault, commandStatus_fatal_eq]; simp [hf]⟩
    · exact ⟨_, hu, by simp [hf, Status.fatal]⟩
    · exact ⟨_, hu, by simp [hf]⟩
    · exact ⟨_, hu, by simp [hf]⟩
    · exact ⟨_, hu, by simp [hf, Status.fatal]⟩
    · exact ⟨_, hu, by rw [State.complete_fault, decodeStatus_not_fatal]; simp [hf]⟩

/-- A move from FAULT = 0 that is no accept leaves FAULT = 0. -/
theorem applyMove_fault (hf : s.fault = false) (hacc : ¬(m = .accept ∧ s.canAccept = true)) (h : applyMove m s = .next t) :
    t.fault = false := by
  obtain rfl | ⟨hm, hc, -⟩ | ⟨hm, hc, -⟩ | ⟨a, -, -, -, rfl⟩ | ⟨a, -, -, -, rfl⟩ | ⟨-, -, -, rfl⟩ | ⟨lost, -, -, rfl⟩ |
    ⟨bs, -, rfl⟩ | ⟨p, -, rfl⟩ := applyMove_cases h
  · exact hf
  · exact absurd ⟨hm, hc⟩ hacc
  · exact absurd ⟨hm, hc⟩ hacc
  · obtain ⟨-, hv, -⟩ | ⟨-, -, -, hv, -⟩ := scanAnswer_flags (s.deliver 1 a).1 (s.deliver 1 a).2 <;> simp [hv, hf]
  · obtain ⟨-, -, -, hv, -⟩ := bodyAnswer_flags (s.deliver 9 a).1 (s.deliver 9 a).2
    simp [hv, hf]
  · obtain ⟨-, hv, -⟩ | ⟨-, -, -, hv, -⟩ := nextAttempt_flags s <;> simp [hv, hf]
  · rfl
  · exact hf
  · exact hf

/-- Settles O41: an accept sets FAULT for the requests that are not allowed, no other move sets it, and only a host read stops. -/
theorem allowedRequestsKeepRunsSafe : Obligations.AllowedRequestsKeepRunsSafe := by
  intro s
  obtain ⟨ag, dr, htake, hstep⟩ := step_eq s
  have haccept (hacc : s.acceptsAny) : ∃ t, step s = .next t ∧
      t.fault = !requestAllowed s.params ⟨s.pins.reqCtrl, s.pins.reqPayload⟩ := by
    obtain ⟨hm, hc⟩ := hacc
    rw [htake] at hc
    obtain ⟨-, -, -, hf⟩ := (canAccept_iff _).1 hc
    obtain ⟨t, ht, hfault⟩ := acceptRequest_fault hf
    exact ⟨t, by rw [hstep, hm, applyMove, if_pos hc, ht], hfault⟩
  refine ⟨fun hf hallowed hread => ?_, fun hacc hbad => ?_⟩
  · by_cases hacc : s.acceptsAny
    · obtain ⟨t, ht, hfault⟩ := haccept hacc
      rw [ht]
      simpa [safeOutcome, hallowed hacc] using hfault
    · cases hs : step s with
      | next t =>
        rw [hstep] at hs
        exact applyMove_fault (s := { s with agenda := ag, draws := dr }) hf (fun h => hacc ⟨h.1, htake ▸ h.2⟩) hs
      | fault f =>
        obtain ⟨r, hm, hr⟩ := ((onlyHostReadsStop s).2 f).1 hs
        exact hread r f hm hr
      | refused r => exact (onlyHostReadsStop s).1 r hs
  · obtain ⟨t, ht, hfault⟩ := haccept hacc
    exact ⟨t, ht, by simpa [hbad] using hfault⟩

/-! ## STATUS_WORD and the status codes -/

/-- The statuses, in the order of their codes. -/
def Status.all : List Status :=
  [.none, .ok, .invalidPayload, .noSync, .shortRead, .transportError, .notQueryAck, .shortFrame, .checksumMismatch, .illegalOp,
    .invalidCommand, .cancelled]

theorem Status.mem_all (a : Status) : a ∈ Status.all := by
  cases a <;> decide

/-- Settles O40: the list of all statuses has twelve different codes. -/
theorem statusCodes : Obligations.StatusCodes :=
  ⟨rfl, fun a b h => List.inj_on_of_nodup_map (l := Status.all) (by decide) a.mem_all b.mem_all h⟩

/-- Bit `j` of STATUS_WORD: each of its fields at its place (10_state.md R34). -/
theorem statusWord_getLsbD (s : State) {j : Nat} (hj : j < 16) : s.statusWord.getLsbD j =
    (s.status.code.getLsbD j || (decide (j = 4) && s.done) || (decide (j = 5) && s.fault) || (decide (j = 6) && s.busy) ||
      (decide (j = 7) && s.frameValid) || (decide (j = 8) && s.txValid) || (decide (j = 9) && s.cksumValid) ||
      (decide (j = 10) && s.readingValid) || (!decide (j < 11) && s.rxLen.getLsbD (j - 11))) := by
  simp only [State.statusWord, BitVec.getLsbD_or, bitAt_getLsbD, BitVec.getLsbD_setWidth, BitVec.getLsbD_shiftLeft]
  have hshift : j - 11 < 16 := by omega
  simp [hj, hshift]

/-- The code of STATUS stands in bits 3..0. -/
theorem statusWord_code (s : State) : s.statusWord.extractLsb' 0 4 = s.status.code := by
  apply BitVec.eq_of_getLsbD_eq
  intro j hj
  have hbit := statusWord_getLsbD s (j := j) (by omega)
  interval_cases j <;> simpa using hbit

/-- RX_LEN stands in bits 14..11. -/
theorem statusWord_rxLen (s : State) : s.statusWord.extractLsb' 11 4 = s.rxLen := by
  apply BitVec.eq_of_getLsbD_eq
  intro j hj
  have hbit := statusWord_getLsbD s (j := 11 + j) (by omega)
  interval_cases j <;> simpa [BitVec.getLsbD_of_ge] using hbit

/-- Settles O44: the fields by their bits, the codes by the statuses, and RX_LEN by the invariant. -/
theorem statusWordFields : Obligations.StatusWordFields := by
  intro s
  refine ⟨?_, by cases s.status <;> decide, by decide, fun ⟨_, _, ⟨hlen, _⟩, _⟩ => ?_, fun p t h => ?_⟩
  · have hcode (j : Nat) (h4 : 4 ≤ j) : s.status.code.getLsbD j = false := BitVec.getLsbD_of_ge _ _ h4
    refine ⟨statusWord_code s, ?_, ?_, ?_, ?_, ?_, ?_, ?_, statusWord_rxLen s, ?_⟩ <;>
      rw [statusWord_getLsbD s (by decide), hcode _ (by decide)] <;> simp [State.busy]
  · rw [statusWord_rxLen]
    exact hlen
  · obtain rfl := next_eq_iff.1 h
    rfl

end Sys2Proof.Machine
end

section
/-! PROOFS. The ends of a scanning operation (60_exceptions.md R202) and the steps that change the flags (10_state.md R36). -/

namespace Sys2Proof.Machine

variable {s t u : State} {m : Move}

/-! ## What each end of a scanning operation leaves -/

/-- The registers after the end of a scanning operation, as `Obligations.EndOfScanningOperation` lists them. -/
abbrev EndRegisters (s t : State) : Prop :=
  t.done = true ∧ t.fault = false ∧ t.attempts ≤ s.params.scanBudget ∧
  (t.attempts = 0 → t.status = .transportError ∧ s.fsm = .scanReq) ∧
  t.status ∈ [.ok, .noSync, .shortRead, .transportError, .checksumMismatch, .cancelled] ∧
  (t.status = .ok → (s.curOp = 4 ∧ t.rxLen = 1 ∧ t.frameValid = false) ∨
    (s.curOp = 5 ∧ t.rxLen = 10 ∧ t.frameValid = true)) ∧
  (t.status ≠ .ok → t.frameValid = false) ∧
  (t.status = .noSync → t.attempts = s.params.scanBudget ∧ t.rxLen = 0) ∧
  (t.status = .cancelled → t.attempts < s.params.scanBudget ∧ t.rxLen = 0) ∧
  (t.status = .transportError → t.attempts = s.attempts ∧ t.rxLen = if s.fsm = .bodyReq then 1 else 0) ∧
  (t.status = .shortRead → 1 ≤ t.rxLen.toNat ∧ t.rxLen.toNat ≤ 9) ∧
  (t.status = .checksumMismatch → t.rxLen = 10 ∧ s.params.strictChecksum = true) ∧
  (t.rxLen ≠ 0 → t.rxFrame[0] = 0xAA)

/-- An attempt that ends the operation between two attempts. -/
theorem endRegisters_cancelled (h : s.Inv) (hbusy : s.busy = true) (hone : 1 ≤ s.attempts)
    (hlt : s.attempts < s.params.scanBudget) (hlen : s.rxLen = 0) : EndRegisters s (s.complete .cancelled) := by
  obtain ⟨-, -, hfault⟩ := inv_busy h hbusy
  obtain ⟨-, ⟨-, -, hop, -⟩, -⟩ := h
  obtain ⟨-, hvalid⟩ := hop hbusy
  simp [EndRegisters, Status.fatal, hfault, hvalid, hlen, hlt, hlt.le, Nat.one_le_iff_ne_zero.1 hone]

/-- The ends of the read-answer step in SCAN_REQ. -/
theorem endRegisters_scanAnswer (ans : Received) (h : s.Inv) (hfsm : s.fsm = .scanReq) (hend : (s.scanAnswer ans).fsm = .idle) :
    EndRegisters s (s.scanAnswer ans) := by
  have hbusy : s.busy = true := busy_of_fsm hfsm nofun
  obtain ⟨-, -, hfault⟩ := inv_busy h hbusy
  obtain ⟨-, ⟨-, hle, hop, hscan, -⟩, -⟩ := h
  obtain ⟨-, hvalid⟩ := hop hbusy
  obtain ⟨hlt, hlen⟩ := hscan hfsm
  have hcount : nextCount s.params s.attempts = s.attempts + 1 := nextCount_of_lt hlt
  obtain ⟨-, hs⟩ | ⟨_, -, hc, hs⟩ | ⟨_, -, -, hs⟩ | ⟨_, -, -, hn, hs⟩ | ⟨-, -, hs⟩ | ⟨_, _, -, -, hn, hs⟩ :=
    scanAnswer_cases ans s <;> rw [hs] at hend ⊢
  · simp [EndRegisters, Status.fatal, hfault, hvalid, hlen, hle, hfsm]
  · simp [EndRegisters, Status.fatal, hfault, hvalid, hcount, hc, hdr, hlt]
  · simp at hend
  · simp [EndRegisters, Status.fatal, hfault, hvalid, hlen, ← hn, hcount]
  · simp at hend
  · obtain ⟨-, hs'⟩ | ⟨-, hs'⟩ := nextAttempt_cases s.countAttempt <;> rw [hs'] at hend ⊢
    · have hlt' : s.attempts + 1 < s.params.scanBudget := by omega
      simp [EndRegisters, Status.fatal, hfault, hvalid, hlen, hcount, hlt', hlt'.le]
    · simp at hend

/-- The ends of the read-answer step in BODY_REQ. -/
theorem endRegisters_bodyAnswer (ans : Received) (h : s.Inv) (hfsm : s.fsm = .bodyReq)
    (hans : ∀ bs, ans = .bytes bs → bs.length ≤ 9) : EndRegisters s (s.bodyAnswer ans) := by
  have hbusy : s.busy = true := busy_of_fsm hfsm nofun
  obtain ⟨-, -, hfault⟩ := inv_busy h hbusy
  obtain ⟨-, ⟨-, hle, hop, -, -, hbody⟩, ⟨-, hhdr, -⟩, -⟩ := h
  obtain ⟨-, hvalid⟩ := hop hbusy
  obtain ⟨hone, h5, hlen⟩ := hbody hfsm
  have hne : s.attempts ≠ 0 := Nat.one_le_iff_ne_zero.1 hone
  have hhdr' : s.rxFrame[0] = 0xAA := hhdr (by simp [hlen])
  obtain ⟨-, hs⟩ | ⟨bs, rfl, hshort, hs⟩ | ⟨bs, rfl, hlong, hck, hs⟩ | ⟨bs, rfl, hlong, -, hs⟩ := bodyAnswer_cases ans s <;>
    rw [hs]
  · simp [EndRegisters, Status.fatal, hfault, hvalid, hlen, hle, hne, hfsm, hhdr']
  · have hk : (1 + bs.length) % 16 = 1 + bs.length := by omega
    have hk' : 1 + bs.length ≤ 9 := by omega
    simp [EndRegisters, Status.fatal, hfault, hvalid, hle, hne, withBody_getElem, hhdr', hk, hk']
  · have hnine : bs.length = 9 := le_antisymm (hans bs rfl) hlong
    have hstrict : s.params.strictChecksum = true := ((checksumBad_iff _).1 hck).1
    simp [EndRegisters, Status.fatal, hfault, hvalid, hle, hne, withBody_getElem, hhdr', hnine, hstrict]
  · have hnine : bs.length = 9 := le_antisymm (hans bs rfl) hlong
    simp [EndRegisters, Status.fatal, hfault, hle, hne, withBody_getElem, hhdr', hnine, h5]

/-- Every end of a scanning operation by a move of the block. -/
theorem endRegisters_applyMove (h : s.Inv) (hm : applyMove m s = .next t) (hbusy : s.busy = true) (hidle : t.busy = false)
    (hreset : ¬((∃ lost, m = .reset lost) ∧ s.pins.rst = true)) : EndRegisters s t := by
  have hfsm : s.fsm ≠ .idle := by simpa [State.busy] using hbusy
  have hend : t.fsm = .idle := by simpa [State.busy] using hidle
  obtain rfl | ⟨-, hc, -⟩ | ⟨-, hc, -⟩ | ⟨a, -, -, hf, rfl⟩ | ⟨a, -, -, hf, rfl⟩ | ⟨-, -, hf, rfl⟩ | ⟨lost, rfl, hrst, -⟩ |
    ⟨bs, -, rfl⟩ | ⟨p, -, rfl⟩ := applyMove_cases hm
  · exact absurd hend hfsm
  · exact absurd ((canAccept_iff s).1 hc).2.2.1 hfsm
  · exact absurd ((canAccept_iff s).1 hc).2.2.1 hfsm
  · have hreg := endRegisters_scanAnswer (s.deliver 1 a).1 (inv_deliver 1 a h) (by simpa using hf) hend
    simpa [EndRegisters] using hreg
  · have hreg := endRegisters_bodyAnswer (s.deliver 9 a).1 (inv_deliver 9 a h) (by simpa using hf) fun _ => deliver_length_le
    simpa [EndRegisters] using hreg
  · obtain ⟨-, hs⟩ | ⟨-, hs⟩ := nextAttempt_cases s <;> rw [hs] at hend ⊢
    · obtain ⟨-, ⟨-, -, -, -, hback, -⟩, -⟩ := id h
      obtain ⟨hone, hlt, hlen⟩ := hback hf
      exact endRegisters_cancelled h hbusy hone hlt hlen
    · cases hend
  · exact absurd ⟨⟨lost, rfl⟩, hrst⟩ hreset
  · exact absurd hend hfsm
  · exact absurd hend hfsm

/-- Settles O28: the end is the block's own move, whose registers the read-answer steps and the expiry give. -/
theorem endOfScanningOperation : Obligations.EndOfScanningOperation := by
  intro s t hinv h hbusy hidle hreset
  obtain ⟨ag, dr, -, hstep⟩ := step_eq s
  rw [hstep] at h
  exact endRegisters_applyMove (s := { s with agenda := ag, draws := dr }) hinv h hbusy hidle hreset

/-! ## The steps that change the flags -/

/-- The flags change only in the steps of R36's table, as `Obligations.FlagsChangeOnlyAsListed` lists them. -/
abbrev FlagChanges (s t : State) : Prop :=
  (s.done = false → t.done = true → t.status ≠ .none ∧ t.fsm = .idle) ∧
  (s.done = true → t.done = false → s.acceptsAny ∨ s.resets) ∧
  (s.fault = false → t.fault = true →
    t.status = .illegalOp ∨ t.status = .invalidPayload ∨ t.status = .invalidCommand) ∧
  (s.fault = true → t.fault = false → s.resets) ∧
  (s.busy = false → t.busy = true → ∃ i, s.accepts i ∧ scans i) ∧
  (s.busy = true → t.busy = false → t.done = true ∨ s.resets) ∧
  (s.frameValid = false → t.frameValid = true → s.fsm = .bodyReq ∧ s.curOp = 5 ∧ t.status = .ok ∧ t.done = true) ∧
  (s.frameValid = true → t.frameValid = false → (∃ i, s.accepts i ∧ scans i) ∨ s.resets) ∧
  (s.txValid = false → t.txValid = true → ∃ c n l, s.accepts (.encode c n l) ∧ t.status = .ok) ∧
  (s.txValid = true → t.txValid = false → (∃ c n l, s.accepts (.encode c n l) ∧ t.status ≠ .ok) ∨ s.resets) ∧
  (s.cksumValid = false → t.cksumValid = true →
    ∃ c n l, (s.accepts (.cksumC c n l) ∨ s.accepts (.cksumR c n l)) ∧ t.status = .ok) ∧
  (s.cksumValid = true → t.cksumValid = false → (∃ c n l, s.accepts (.cksumC c n l) ∧ t.status ≠ .ok) ∨ s.resets) ∧
  (s.readingValid = false → t.readingValid = true → ∃ c n l, s.accepts (.decode c n l) ∧ t.status = .ok) ∧
  (s.readingValid = true → t.readingValid = false → (∃ c n l, s.accepts (.decode c n l) ∧ t.status ≠ .ok) ∨ s.resets)

/-- A state with the same flags. -/
theorem flagChanges_of_same (hdone : t.done = s.done) (hfault : t.fault = s.fault) (hfsm : t.fsm = s.fsm)
    (hfv : t.frameValid = s.frameValid) (htx : t.txValid = s.txValid) (hck : t.cksumValid = s.cksumValid)
    (hrd : t.readingValid = s.readingValid) : FlagChanges s t := by
  have hbusy : t.busy = s.busy := by rw [State.busy, State.busy, hfsm]
  rw [FlagChanges, hdone, hfault, hbusy, hfv, htx, hck, hrd]
  simp +contextual

/-- The reset step lets every flag fall. -/
theorem flagChanges_of_reset (hreset : s.resets) (lost : Nat) : FlagChanges s (u.resetBlock lost) := by
  simp [FlagChanges, hreset, State.reset, State.busy]

/-- The fatal statuses, in the order of R36's row for FAULT. -/
theorem fatal_iff_listed (st : Status) :
    st.fatal = true ↔ st = .illegalOp ∨ st = .invalidPayload ∨ st = .invalidCommand := by
  rw [fatal_iff]
  exact or_left_comm

/-- An enabled accept of an illegal word. -/
theorem flagChanges_of_illegal (hacc : s.acceptsAny) (hidle : s.fsm = .idle) (hu : SameBlock s u) (op : BitVec 4) :
    FlagChanges s ((u.beginOp op).complete .illegalOp) := by
  obtain ⟨-, -, -, -, -, hfv, -, -, htx, -, -, hck, -, -, -, hrd, -⟩ := hu
  simp +contextual [FlagChanges, hacc, State.busy, hidle, hfv, htx, hck, hrd, Status.fatal]

/-- An enabled accept of a legal request, by its ends: each changes its own flags. -/
theorem flagChanges_of_exec {i : Instr} (hacc : s.accepts i) (hidle : s.fsm = .idle)
    (hu : SameBlock s u) (h : exec i u = .next t) : FlagChanges s t := by
  obtain ⟨-, -, -, -, -, hfv, -, -, htx, -, -, hck, -, -, -, hrd, -, -, hf⟩ := hu
  have hany : s.acceptsAny := ⟨hacc.1, hacc.2.1⟩
  obtain ⟨c, n, l, rfl, hst, hi⟩ | ⟨c, n, l, rfl, hst, hi⟩ | ⟨c, n, l, rfl, hst, hi⟩ | ⟨c, n, l, rfl, hst, hi⟩ |
    ⟨c, n, l, rfl, hi⟩ | ⟨c, n, l, rfl, hi⟩ | ⟨c, n, l, rfl, hi⟩ | ⟨c, n, l, rfl, hst, hi⟩ | ⟨c, n, l, rfl, hst, hi⟩ :=
    exec_cases i u <;> obtain rfl := next_eq_iff.1 (hi.symm.trans h)
  · have hw : ∃ c n l, s.accepts (.encode c n l) := ⟨c, n, l, hacc⟩
    simp +contextual [FlagChanges, State.busy, hidle, hf, hfv, htx, hck, hrd, Status.fatal, hany, hw]
  · have hw : ∃ c n l, s.accepts (.encode c n l) := ⟨c, n, l, hacc⟩
    simp +contextual [FlagChanges, State.busy, hidle, hf, hfv, htx, hck, hrd, hany, hw, hst, commandStatus_ne_none,
      fatal_iff_listed]
  · have hw : ∃ c n l, s.accepts (.cksumC c n l) ∨ s.accepts (.cksumR c n l) := ⟨c, n, l, .inl hacc⟩
    simp +contextual [FlagChanges, State.busy, hidle, hf, hfv, htx, hck, hrd, Status.fatal, hany, hw]
  · have hw : ∃ c n l, s.accepts (.cksumC c n l) := ⟨c, n, l, hacc⟩
    simp +contextual [FlagChanges, State.busy, hidle, hf, hfv, htx, hck, hrd, hany, hw, hst, commandStatus_ne_none,
      fatal_iff_listed]
  · have hw : ∃ c n l, s.accepts (.cksumC c n l) ∨ s.accepts (.cksumR c n l) := ⟨c, n, l, .inr hacc⟩
    simp +contextual [FlagChanges, State.busy, hidle, hf, hfv, htx, hck, hrd, Status.fatal, hany, hw]
  · have hw : ∃ i, s.accepts i ∧ scans i := ⟨_, hacc, .inl rfl⟩
    simp +contextual [FlagChanges, State.busy, hidle, hf, hfv, htx, hck, hrd, hany, hw]
  · have hw : ∃ i, s.accepts i ∧ scans i := ⟨_, hacc, .inr rfl⟩
    simp +contextual [FlagChanges, State.busy, hidle, hf, hfv, htx, hck, hrd, hany, hw]
  · have hw : ∃ c n l, s.accepts (.decode c n l) := ⟨c, n, l, hacc⟩
    simp +contextual [FlagChanges, State.busy, hidle, hf, hfv, htx, hck, hrd, Status.fatal, hany, hw]
  · have hw : ∃ c n l, s.accepts (.decode c n l) := ⟨c, n, l, hacc⟩
    simp +contextual [FlagChanges, State.busy, hidle, hf, hfv, htx, hck, hrd, hany, hw, hst, decodeStatus_ne_none,
      fatal_iff_listed]

/-- A busy block goes on or ends (R134, R137, R161): no result register's flag changes, and FRAME_VALID only rises. -/
theorem flagChanges_of_goesOnOrEnds (h : s.Inv) (hbusy : s.busy = true) (hdone : u.done = s.done) (hfault : u.fault = s.fault)
    (hgo : GoesOnOrEnds u t) (htx : t.txValid = s.txValid) (hck : t.cksumValid = s.cksumValid)
    (hrd : t.readingValid = s.readingValid)
    (hfv : t.frameValid = s.frameValid ∨ (s.fsm = .bodyReq ∧ s.curOp = 5 ∧ t.status = .ok ∧ t.done = true)) :
    FlagChanges s t := by
  obtain ⟨hd, -, hf⟩ := inv_busy h hbusy
  obtain ⟨-, ⟨-, -, hop, -⟩, -⟩ := h
  obtain ⟨-, hvalid⟩ := hop hbusy
  have hrise : t.frameValid = true → s.fsm = .bodyReq ∧ s.curOp = 5 ∧ t.status = .ok ∧ t.done = true :=
    fun ht => hfv.resolve_left fun hsame => by simp [hsame, hvalid] at ht
  rw [hd] at hdone
  rw [hf] at hfault
  obtain ⟨hd', hf', hne⟩ | ⟨hd', hst, -, hf', hfsm⟩ := hgo
  · rw [hdone] at hd'
    rw [hfault] at hf'
    have hbusy' : t.busy = true := by simp [State.busy, hne]
    have hvalid' : t.frameValid = false := by
      by_contra hrises
      obtain ⟨-, -, -, hends⟩ := hrise (by simpa using hrises)
      simp [hd'] at hends
    simp +contextual [FlagChanges, hd, hd', hf, hf', hbusy, hbusy', hvalid, hvalid', htx, hck, hrd]
  · rw [hfault] at hf'
    simp +contextual [FlagChanges, hd, hd', hf, hf', hbusy, hst, hfsm, hvalid, htx, hck, hrd, hrise]

/-- Settles O43: by what the step's move is, at the state that differs only in its scheduling data. -/
theorem flagsChangeOnlyAsListed : Obligations.FlagsChangeOnlyAsListed := by
  intro s t hinv h
  obtain ⟨ag, dr, htake, hstep⟩ := step_eq s
  rw [hstep] at h
  have hsame : SameBlock s { s with agenda := ag, draws := dr } := by simp [SameBlock]
  obtain rfl | ⟨hm, hc, i, hdec, hi⟩ | ⟨hm, hc, -, rfl⟩ | ⟨a, -, -, hf, rfl⟩ | ⟨a, -, -, hf, rfl⟩ | ⟨-, -, hf, rfl⟩ |
    ⟨lost, hm, hrst, rfl⟩ | ⟨bs, -, rfl⟩ | ⟨p, -, rfl⟩ := applyMove_cases h
  · exact flagChanges_of_same rfl rfl rfl rfl rfl rfl rfl
  · obtain ⟨-, -, hidle, -⟩ := (canAccept_iff _).1 hc
    exact flagChanges_of_exec ⟨hm, htake ▸ hc, hdec⟩ hidle hsame hi
  · obtain ⟨-, -, hidle, -⟩ := (canAccept_iff _).1 hc
    exact flagChanges_of_illegal ⟨hm, htake ▸ hc⟩ hidle hsame _
  · exact flagChanges_of_goesOnOrEnds hinv (busy_of_fsm hf nofun) (by simp) (by simp) (scanAnswer_flags _ _) (by simp)
      (by simp) (by simp) (.inl (by simp))
  · obtain ⟨hd, hst, hfat, hfault, hidle, hfv⟩ := bodyAnswer_flags (State.deliver 9 a { s with agenda := ag, draws := dr }).1
      (State.deliver 9 a { s with agenda := ag, draws := dr }).2
    obtain ⟨-, ⟨-, -, -, -, -, hbody⟩, -⟩ := id hinv
    obtain ⟨-, h5, -⟩ := hbody hf
    refine flagChanges_of_goesOnOrEnds hinv (busy_of_fsm hf nofun) (by simp) (by simp) (.inr ⟨hd, hst, hfat, hfault, hidle⟩)
      (by simp) (by simp) (by simp) ?_
    obtain hkept | ⟨-, hok⟩ := hfv
    · exact .inl (by simpa using hkept)
    · exact .inr ⟨hf, h5, hok, hd⟩
  · exact flagChanges_of_goesOnOrEnds hinv (busy_of_fsm hf nofun) rfl rfl (nextAttempt_flags _) (by simp) (by simp) (by simp)
      (.inl (by simp))
  · exact flagChanges_of_reset ⟨⟨lost, hm⟩, hrst⟩ lost
  · exact flagChanges_of_same rfl rfl rfl rfl rfl rfl rfl
  · exact flagChanges_of_same rfl rfl rfl rfl rfl rfl rfl

end Sys2Proof.Machine
end

section
/-! PROOFS. Runs of a scan over the reference transport (41_stream_reader.md section 2, 42_response_decoder.md section 1). -/

namespace Sys2Proof.Machine

variable {s t : State} {pre post rest : List Byte} {ms ns ag : List Move}

/-! ## Lists of moves -/

/-- Moves in two parts. -/
theorem applyMoves_append (ns : List Move) (h : applyMoves ms s = .next t) : applyMoves (ms ++ ns) s = applyMoves ns t := by
  induction ms generalizing s with
  | nil => rw [List.nil_append, next_eq_iff.1 h]
  | cons m ms ih =>
    cases hm : applyMove m s with
    | next u =>
      rw [List.cons_append, applyMoves_cons _ hm]
      exact ih (applyMoves_cons ms hm ▸ h)
    | fault r => simp [applyMoves, hm] at h
    | refused r => simp [applyMoves, hm] at h

theorem applyMoves_one {m : Move} (h : applyMove m s = .next t) : applyMoves [m] s = .next t := by
  rw [applyMoves_cons [] h, applyMoves_nil]

/-- Moves at the head of the agenda run as they are. -/
theorem run_of_agenda {k : Nat} (hk : k = ms.length) (hag : s.agenda = ms ++ ag) (h : applyMoves ms s = .next t) :
    core.run k s = .next { t with agenda := ag } := by
  have hrun := agendaRunsAnyMoves ms ag s
  rw [h, ← hag] at hrun
  rw [hk]
  exact hrun

/-- The reference answers, as moves. -/
theorem map_answer_referenceAnswers (k : Nat) :
    (referenceAnswers k).map Move.answer = List.replicate k (.answer (.bytes 9)) := List.map_replicate

/-! ## Attempts over the reference transport -/

/-- A miss that leaves attempts in the budget, with CANCEL = 0. -/
theorem applyMove_answer_miss_of_lt {len : Nat} {b : Byte} (hf : s.fsm = .scanReq) (hr : s.pins.rst = false)
    (hc : s.pins.cancel = false) (hlen : 1 ≤ len) (hp : s.pending = b :: rest) (hb : b ≠ hdr)
    (hlt : s.attempts + 1 < s.params.scanBudget) :
    applyMove (.answer (.bytes len)) s = .next { s with pending := rest, attempts := s.attempts + 1 } := by
  have hcount : nextCount s.params s.attempts = s.attempts + 1 := nextCount_of_lt (by omega)
  have hcancel : ¬ { s with pending := rest }.countAttempt.pins.cancel = true := by simp [hc]
  rw [applyMove_answer_miss hf hr hlen hp hb, if_neg (by omega), nextAttempt_eq, if_neg hcancel, State.countAttempt, hcount, ← hf]

/-- Bytes without a header are taken one by one, each in one attempt. -/
theorem applyMoves_misses (hf : s.fsm = .scanReq) (hr : s.pins.rst = false) (hc : s.pins.cancel = false)
    (hp : s.pending = pre ++ rest) (hpre : hdr ∉ pre) (hlt : s.attempts + pre.length < s.params.scanBudget) :
    applyMoves (List.replicate pre.length (.answer (.bytes 9))) s =
      .next { s with pending := rest, attempts := s.attempts + pre.length } := by
  induction pre generalizing s with
  | nil => simp [← show s.pending = rest from hp]
  | cons b pre ih =>
    obtain ⟨hb, hpre⟩ : hdr ≠ b ∧ hdr ∉ pre := by simpa using hpre
    rw [List.length_cons] at hlt
    have hmiss := applyMove_answer_miss_of_lt (len := 9) (rest := pre ++ rest) hf hr hc (by omega) hp (Ne.symm hb) (by omega)
    rw [List.length_cons, List.replicate_succ, applyMoves_cons _ hmiss]
    rw [ih (s := { s with pending := pre ++ rest, attempts := s.attempts + 1 }) hf hr hc rfl hpre
      (show s.attempts + 1 + pre.length < s.params.scanBudget by omega)]
    simp [Nat.add_assoc, Nat.add_comm 1]

/-- The match that ends the scan for the first header of the stream. -/
theorem applyMoves_scan_match (hf : s.fsm = .scanReq) (hr : s.pins.rst = false) (hc : s.pins.cancel = false)
    (hp : s.pending = pre ++ hdr :: post) (hpre : hdr ∉ pre) (hlt : s.attempts + pre.length < s.params.scanBudget) :
    applyMoves (List.replicate (pre.length + 1) (.answer (.bytes 9))) s =
      .next (if s.curOp = 0x4 then
        { s with
          pending := post, attempts := s.attempts + pre.length + 1, rxFrame := s.rxFrame.set 0 hdr, rxLen := 1
          status := .ok, done := true, fsm := .idle }
      else
        { s with
          pending := post, attempts := s.attempts + pre.length + 1, rxFrame := s.rxFrame.set 0 hdr, rxLen := 1
          fsm := .bodyReq }) := by
  have hcount : nextCount s.params (s.attempts + pre.length) = s.attempts + pre.length + 1 := nextCount_of_lt hlt
  rw [List.replicate_succ', applyMoves_append _ (applyMoves_misses hf hr hc hp hpre hlt)]
  refine (applyMoves_one (applyMove_answer_header (s := { s with pending := hdr :: post, attempts := s.attempts + pre.length })
    hf hr (by omega) rfl)).trans ?_
  rw [hcount]

/-- Settles O32: misses up to the header, then the match. -/
theorem scanFindsFirstHeader : Obligations.ScanFindsFirstHeader := by
  intro s pre post ag hf ha hr hc hp hpre hlt hag
  rw [map_answer_referenceAnswers] at hag
  have hmoves := applyMoves_scan_match hf hr hc hp hpre (by omega)
  rw [ha, Nat.zero_add] at hmoves
  have hheader : (s.rxFrame.set 0 hdr)[0] = 0xAA := Vector.getElem_set_self _
  by_cases hop : s.curOp = 4
  · rw [if_pos hop] at hmoves
    exact ⟨_, run_of_agenda List.length_replicate.symm hag hmoves, rfl, rfl, rfl, hheader, rfl, fun _ => ⟨rfl, rfl, rfl⟩,
      fun hne => absurd hop hne⟩
  · rw [if_neg hop] at hmoves
    exact ⟨_, run_of_agenda List.length_replicate.symm hag hmoves, rfl, rfl, rfl, hheader, rfl, fun h => absurd h hop,
      fun _ => ⟨rfl, rfl⟩⟩

/-! ## A scan without a header -/

/-- One attempt that finds no header, and the end of the backoff wait it may have started. -/
theorem applyMoves_attempt (hf : s.fsm = .scanReq) (hr : s.pins.rst = false) (hc : s.pins.cancel = false)
    (hh : s.pending.head? ≠ some hdr) (hlt : s.attempts < s.params.scanBudget) :
    applyMoves [.answer (.bytes 9), .expire] s = .next (if s.attempts + 1 = s.params.scanBudget then
      { s with pending := s.pending.drop 1, attempts := s.attempts + 1, status := .noSync, done := true, fsm := .idle }
      else { s with pending := s.pending.drop 1, attempts := s.attempts + 1 }) := by
  have hcount : nextCount s.params s.attempts = s.attempts + 1 := nextCount_of_lt hlt
  obtain hp | ⟨b, rest, hp⟩ : s.pending = [] ∨ ∃ b rest, s.pending = b :: rest := by cases s.pending <;> simp
  · have hanswer := applyMove_answer_none (len := 9) hf hr (.inr hp)
    have hdrop : s.pending.drop 1 = s.pending := by rw [hp]; rfl
    rw [hcount] at hanswer
    rw [hdrop]
    by_cases hn : s.attempts + 1 = s.params.scanBudget
    · rw [if_pos hn] at hanswer ⊢
      rw [applyMoves_cons _ hanswer]
      exact applyMoves_one (applyMove_expire_of_ne_backoff (by simp))
    · rw [if_neg hn] at hanswer ⊢
      have hexpire := (backoffExpiryStep { s with attempts := s.attempts + 1, fsm := .backoff } hr).2.1 rfl hc
      rw [applyMoves_cons _ hanswer, applyMoves_one hexpire, ← hf]
  · have hb : b ≠ hdr := by simpa [hp] using hh
    have hdrop : s.pending.drop 1 = rest := by rw [hp]; rfl
    rw [hdrop]
    by_cases hn : s.attempts + 1 = s.params.scanBudget
    · have hanswer := applyMove_answer_miss (len := 9) hf hr (by omega) hp hb
      rw [hcount, if_pos hn] at hanswer
      rw [if_pos hn, applyMoves_cons _ hanswer]
      exact applyMoves_one (applyMove_expire_of_ne_backoff (by simp))
    · have hanswer := applyMove_answer_miss_of_lt (len := 9) hf hr hc (by omega) hp hb (by omega)
      rw [if_neg hn, applyMoves_cons _ hanswer]
      exact applyMoves_one (applyMove_expire_of_ne_backoff (by simp [hf]))

/-- A stream without a header in its first bytes does not begin with one. -/
theorem head?_ne_of_not_mem_take {b : Byte} {l : List Byte} {k : Nat} (h : b ∉ l.take (k + 1)) : l.head? ≠ some b := by
  cases l with
  | nil => nofun
  | cons x l => simp_all [eq_comm]

/-- A fair schedule is its first answer with the expiry after it, then the rest. -/
theorem fairAnswers_cons (a : Answer) (as : List Answer) :
    fairAnswers (a :: as) = [.answer a, .expire] ++ fairAnswers as := rfl

theorem length_fairAnswers (as : List Answer) : (fairAnswers as).length = 2 * as.length := by
  induction as with
  | nil => rfl
  | cons a as ih =>
    rw [fairAnswers_cons, List.length_append, ih]
    simp only [List.length_cons, List.length_nil]
    omega

/-- `k + 1` attempts that exhaust the budget without a header end the scan with NO_SYNC. -/
theorem applyMoves_noSync (k : Nat) (hf : s.fsm = .scanReq) (hr : s.pins.rst = false) (hc : s.pins.cancel = false)
    (hb : s.attempts + (k + 1) = s.params.scanBudget) (hh : hdr ∉ s.pending.take (k + 1)) :
    applyMoves (fairAnswers (referenceAnswers (k + 1))) s =
      .next { s with
        pending := s.pending.drop (k + 1), attempts := s.params.scanBudget, status := .noSync, done := true, fsm := .idle } := by
  induction k generalizing s with
  | zero =>
    have hfirst := applyMoves_attempt hf hr hc (head?_ne_of_not_mem_take hh) (by omega)
    rw [if_pos hb, hb] at hfirst
    exact hfirst
  | succ k ih =>
    have hfirst := applyMoves_attempt hf hr hc (head?_ne_of_not_mem_take hh) (by omega)
    rw [if_neg (by omega)] at hfirst
    have htail : (s.pending.take (k + 1 + 1)).drop 1 = (s.pending.drop 1).take (k + 1) := List.drop_take
    have hrest : hdr ∉ (s.pending.drop 1).take (k + 1) := fun hmem => hh (List.mem_of_mem_drop (htail ▸ hmem))
    have hcons : fairAnswers (referenceAnswers (k + 1 + 1)) =
        [.answer (.bytes 9), .expire] ++ fairAnswers (referenceAnswers (k + 1)) := rfl
    rw [hcons, applyMoves_append _ hfirst,
      ih (s := { s with pending := s.pending.drop 1, attempts := s.attempts + 1 }) hf hr hc
        (show s.attempts + 1 + (k + 1) = s.params.scanBudget by omega) hrest]
    simp [Nat.add_comm]

/-- Settles O33: the budget's attempts, none of which finds a header. -/
theorem scanWithoutHeaderEndsNoSync : Obligations.ScanWithoutHeaderEndsNoSync := by
  intro s ag hf ha hr hc hb hh hag
  obtain ⟨k, hk⟩ : ∃ k, s.params.scanBudget = k + 1 := ⟨s.params.scanBudget - 1, by omega⟩
  rw [hk] at hh hag
  have hmoves := applyMoves_noSync k hf hr hc (by omega) hh
  refine ⟨_, run_of_agenda ?_ hag hmoves, rfl, rfl, rfl, rfl, rfl, rfl, by rw [hk], rfl⟩
  rw [length_fairAnswers, referenceAnswers, List.length_replicate, hk]

/-! ## READFRAME over the reference transport -/

/-- The ten elements of a response frame, listed. -/
theorem frame_toList (f : RespFrame) : f.toList = [f[0], f[1], f[2], f[3], f[4], f[5], f[6], f[7], f[8], f[9]] := by
  apply List.ext_getElem
  · simp
  · intro i h1 h2
    simp at h1
    interval_cases i <;> simp

/-- The strict check, on the body that follows the header. -/
theorem checksumBad_iff_body {b : Byte} {body : List Byte} (hframe : s.rxFrame.toList = b :: body) :
    s.checksumBad = true ↔
      s.params.strictChecksum = true ∧ byteSum (body.take 7) % 256 ≠ (body.getD 7 0).toNat := by
  rw [frame_toList] at hframe
  obtain ⟨-, rfl⟩ := List.cons.inj hframe
  rw [checksumBad_iff]
  rw [ne_comm]
  simp [Nat.add_assoc]

/-- A frame whose header is followed by a complete body. -/
theorem withBody_toList {f : RespFrame} {body : List Byte} (hlen : body.length = 9) :
    (withBody f body).toList = f[0] :: body := by
  apply List.ext_getElem
  · simp [hlen]
  · intro i h1 h2
    have hi : i < 10 := by simpa using h1
    rw [Vector.getElem_toList, withBody_getElem f body i hi]
    cases i with
    | zero => rfl
    | succ i =>
      have hib : i < body.length := by omega
      simp [hib]

/-- The status with which a complete body ends (42_response_decoder.md R163, R164). -/
def State.frameStatus (s : State) : Status := if s.checksumBad = true then .checksumMismatch else .ok

/-- The answer that brings a complete body: the strict check decides the end. -/
theorem applyMove_answer_complete_body {body : List Byte} {st : Status} (hf : s.fsm = .bodyReq) (hr : s.pins.rst = false)
    (hp : s.pending = body ++ post) (hlen : body.length = 9) (hst : (s.storeBody body).frameStatus = st) :
    applyMove (.answer (.bytes 9)) s =
      .next { s with
        pending := post, rxFrame := withBody s.rxFrame body, rxLen := 10, status := st, done := true, fsm := .idle
        frameValid := if st = .ok then true else s.frameValid } := by
  have htake : s.pending.take 9 = body := by simp [hp, ← hlen]
  have hdrop : s.pending.drop 9 = post := by simp [hp, ← hlen]
  rw [applyMove_answer_bodyReq _ hf hr, deliver_bytes, Nat.min_self, htake, hdrop]
  exact congrArg Host.Outcome.next (bodyAnswer_bytes (s := { s with pending := post }) hlen hst.symm)

/-- A READFRAME over the reference transport: the misses, the match and the body. -/
theorem applyMoves_readframe {body : List Byte} {st : Status} (hf : s.fsm = .scanReq) (hop : s.curOp = 0x5)
    (hr : s.pins.rst = false) (hc : s.pins.cancel = false) (hp : s.pending = pre ++ hdr :: (body ++ post)) (hpre : hdr ∉ pre)
    (hlt : s.attempts + pre.length < s.params.scanBudget) (hlen : body.length = 9)
    (hst : { s with rxFrame := withBody (s.rxFrame.set 0 hdr) body }.frameStatus = st) :
    applyMoves (List.replicate (pre.length + 2) (.answer (.bytes 9))) s =
      .next { s with
        pending := post, attempts := s.attempts + pre.length + 1, rxFrame := withBody (s.rxFrame.set 0 hdr) body, rxLen := 10
        status := st, done := true, fsm := .idle, frameValid := if st = .ok then true else s.frameValid } := by
  have hmatch := applyMoves_scan_match hf hr hc hp hpre hlt
  rw [if_neg (by simp [hop])] at hmatch
  rw [List.replicate_succ', applyMoves_append _ hmatch]
  exact applyMoves_one (applyMove_answer_complete_body rfl hr rfl hlen hst)

/-- Settles O38: the received frame is the header and the body, and the strict check is on these bytes. -/
theorem readFrameReturnsFirstFrame : Obligations.ReadFrameReturnsFirstFrame := by
  intro s pre body post ag hf hop ha hr hc hp hpre hlt hlen hag
  rw [map_answer_referenceAnswers] at hag
  have hheader : (s.rxFrame.set 0 hdr)[0] = 0xAA := Vector.getElem_set_self _
  have hframe : (withBody (s.rxFrame.set 0 hdr) body).toList = 0xAA :: body := by rw [withBody_toList hlen, hheader]
  have hbad := checksumBad_iff_body (s := { s with rxFrame := withBody (s.rxFrame.set 0 hdr) body }) hframe
  have hmoves := fun st => applyMoves_readframe (st := st) hf hop hr hc hp hpre (by omega) hlen
  rw [ha, Nat.zero_add] at hmoves
  by_cases hck : { s with rxFrame := withBody (s.rxFrame.set 0 hdr) body }.checksumBad = true
  · obtain ⟨hstrict, hne⟩ := hbad.1 hck
    refine ⟨_, run_of_agenda List.length_replicate.symm hag (hmoves .checksumMismatch (if_pos hck)), rfl, rfl, rfl, hframe, rfl,
      rfl, ?_, fun _ _ => ⟨rfl, rfl⟩⟩
    rintro (hlenient | hsum)
    · exact absurd (hlenient.symm.trans hstrict) nofun
    · exact absurd hsum hne
  · exact ⟨_, run_of_agenda List.length_replicate.symm hag (hmoves .ok (if_neg hck)), rfl, rfl, rfl, hframe, rfl, rfl,
      fun _ => ⟨rfl, rfl⟩, fun hstrict hne => absurd (hbad.2 ⟨hstrict, hne⟩) hck⟩

end Sys2Proof.Machine
end

section
/-! PROOFS. Every scan ends and every request completes (41_stream_reader.md section 2, 70_reset_and_hazards.md R243, R244): a
measure that every move the FSM state waits for makes smaller. -/

namespace Sys2Proof.Machine

variable {s t : State} {m : Move}

/-! ## The measure -/

/-- How far an operation in progress is from its end: two for each attempt that the budget still allows, and one more in
BACKOFF, whose expiry is then a step too. -/
def State.remaining (s : State) : Nat :=
  match s.fsm with
  | .idle => 0
  | .bodyReq => 1
  | .scanReq => 2 * (s.params.scanBudget - s.attempts) + 1
  | .backoff => 2 * (s.params.scanBudget - s.attempts) + 2

theorem remaining_of_idle (h : s.fsm = .idle) : s.remaining = 0 := by
  simp [State.remaining, h]

theorem remaining_of_bodyReq (h : s.fsm = .bodyReq) : s.remaining = 1 := by
  simp [State.remaining, h]

theorem remaining_of_scanReq (h : s.fsm = .scanReq) : s.remaining = 2 * (s.params.scanBudget - s.attempts) + 1 := by
  simp [State.remaining, h]

theorem remaining_of_backoff (h : s.fsm = .backoff) : s.remaining = 2 * (s.params.scanBudget - s.attempts) + 2 := by
  simp [State.remaining, h]

/-- A move that a busy block waits for brings it nearer to its end. -/
theorem remaining_lt_of_awaited (hinv : s.Inv) (hr : s.pins.rst = false) (hm : s.fsm.waitsFor m)
    (h : applyMove m s = .next t) : t.remaining < s.remaining := by
  obtain ⟨-, ⟨-, -, -, hscan, hback, -⟩, -⟩ := hinv
  cases hf : s.fsm with
  | idle => simp [hf, FsmState.waitsFor] at hm
  | bodyReq =>
    obtain ⟨a, rfl⟩ : ∃ a, m = .answer a := by simpa [hf, FsmState.waitsFor] using hm
    obtain rfl := next_eq_iff.1 ((applyMove_answer_bodyReq a hf hr).symm.trans h)
    obtain ⟨-, -, -, -, hidle, -⟩ := bodyAnswer_flags (s.deliver 9 a).1 (s.deliver 9 a).2
    rw [remaining_of_idle hidle, remaining_of_bodyReq hf]
    exact Nat.one_pos
  | backoff =>
    obtain rfl : m = .expire := by simpa [hf, FsmState.waitsFor] using hm
    obtain rfl := next_eq_iff.1 ((applyMove_expire_backoff hf hr).symm.trans h)
    rw [remaining_of_backoff hf]
    obtain ⟨-, hn⟩ | ⟨-, hn⟩ := nextAttempt_cases s <;> rw [hn]
    · rw [remaining_of_idle rfl]
      omega
    · rw [remaining_of_scanReq rfl]
      simp
  | scanReq =>
    obtain ⟨a, rfl⟩ : ∃ a, m = .answer a := by simpa [hf, FsmState.waitsFor] using hm
    obtain rfl := next_eq_iff.1 ((applyMove_answer_scanReq a hf hr).symm.trans h)
    obtain ⟨hlt, -⟩ := hscan hf
    have hcount : nextCount s.params s.attempts = s.attempts + 1 := nextCount_of_lt hlt
    rw [remaining_of_scanReq hf]
    obtain ⟨-, hn⟩ | ⟨_, -, -, hn⟩ | ⟨_, -, -, hn⟩ | ⟨_, -, -, -, hn⟩ | ⟨-, -, hn⟩ | ⟨_, _, -, -, -, hn⟩ :=
      scanAnswer_cases (s.deliver 1 a).1 (s.deliver 1 a).2 <;> rw [hn]
    · rw [remaining_of_idle rfl]
      omega
    · rw [remaining_of_idle rfl]
      omega
    · rw [remaining_of_bodyReq rfl]
      omega
    · rw [remaining_of_idle rfl]
      omega
    · rw [remaining_of_backoff rfl]
      simp only [State.goto_params, State.goto_attempts, State.countAttempt_params, State.countAttempt_attempts,
        State.deliver_params, State.deliver_attempts, hcount]
      omega
    · obtain ⟨-, hn⟩ | ⟨-, hn⟩ := nextAttempt_cases (s.deliver 1 a).2.countAttempt <;> rw [hn]
      · rw [remaining_of_idle rfl]
        omega
      · rw [remaining_of_scanReq rfl]
        simp only [State.goto_params, State.goto_attempts, State.countAttempt_params, State.countAttempt_attempts,
          State.deliver_params, State.deliver_attempts, hcount]
        omega

/-! ## Every scan ends -/

/-- An answer takes a scan further, and leaves a backoff wait and an ended scan as they are. -/
theorem remaining_answer {a : Answer} {r : Nat} (hinv : s.Inv) (hr : s.pins.rst = false) (hs : s.remaining ≤ 2 * r + 3)
    (h : applyMove (.answer a) s = .next t) : t.remaining ≤ 2 * r + 2 := by
  by_cases hread : s.fsm = .scanReq ∨ s.fsm = .bodyReq
  · have hwaits : s.fsm.waitsFor (.answer a) := by obtain hf | hf := hread <;> exact hf ▸ ⟨a, rfl⟩
    have hlt := remaining_lt_of_awaited hinv hr hwaits h
    omega
  · obtain ⟨hscan, hbody⟩ := not_or.1 hread
    obtain rfl := next_eq_iff.1 ((applyMove_answer_of_not_reading a hscan hbody).symm.trans h)
    cases hf : s.fsm with
    | idle => rw [remaining_of_idle hf]; omega
    | backoff => rw [remaining_of_backoff hf] at hs ⊢; omega
    | scanReq => exact absurd hf hscan
    | bodyReq => exact absurd hf hbody

/-- An expiry takes a backoff wait further, and leaves every other state as it is. -/
theorem remaining_expire {r : Nat} (hinv : s.Inv) (hr : s.pins.rst = false) (hs : s.remaining ≤ 2 * r + 2)
    (h : applyMove .expire s = .next t) : t.remaining ≤ 2 * r + 1 := by
  by_cases hback : s.fsm = .backoff
  · have hwaits : s.fsm.waitsFor .expire := hback ▸ rfl
    have hlt := remaining_lt_of_awaited hinv hr hwaits h
    omega
  · obtain rfl := next_eq_iff.1 ((applyMove_expire_of_ne_backoff hback).symm.trans h)
    cases hf : s.fsm with
    | idle => rw [remaining_of_idle hf]; omega
    | bodyReq => rw [remaining_of_bodyReq hf]; omega
    | scanReq => rw [remaining_of_scanReq hf] at hs ⊢; omega
    | backoff => exact absurd hf hback

/-- Answers and expiries leave the lines. -/
theorem answerRead_pins (a : Answer) (s : State) : (s.answerRead a).pins = s.pins := by
  unfold State.answerRead
  split
  · rfl
  · split <;> simp

theorem expireBackoff_pins (s : State) : s.expireBackoff.pins = s.pins := by
  unfold State.expireBackoff State.backoffExpire
  split <;> simp

/-- As many answers as the measure allows attempts, each followed by the end of a wait, leave no scan. -/
theorem applyMoves_fairAnswers (as : List Answer) (hinv : s.Inv) (hr : s.pins.rst = false)
    (hs : s.remaining ≤ 2 * as.length + 1) :
    ∃ t, applyMoves (fairAnswers as) s = .next t ∧ t.Inv ∧ t.params = s.params ∧ t.remaining ≤ 1 := by
  induction as generalizing s with
  | nil => exact ⟨s, rfl, hinv, rfl, hs⟩
  | cons a as ih =>
    have hanswer : applyMove (.answer a) s = .next (s.answerRead a) := rfl
    have hexpire : applyMove .expire (s.answerRead a) = .next (s.answerRead a).expireBackoff := rfl
    have hinv₁ := inv_applyMove hinv hanswer
    have hr₁ : (s.answerRead a).pins.rst = false := (congrArg HostPins.rst (answerRead_pins a s)).trans hr
    have hs₁ := remaining_answer (r := as.length) hinv hr hs hanswer
    have hs₂ := remaining_expire hinv₁ hr₁ hs₁ hexpire
    have hr₂ := (congrArg HostPins.rst (expireBackoff_pins (s.answerRead a))).trans hr₁
    obtain ⟨t, ht, htinv, htparams, htrem⟩ := ih (inv_applyMove hinv₁ hexpire) hr₂ hs₂
    refine ⟨t, ?_, htinv, ?_, htrem⟩
    · rw [fairAnswers_cons, applyMoves_append _ ((applyMoves_cons _ hanswer).trans (applyMoves_one hexpire))]
      exact ht
    · rw [htparams, applyMove_params hexpire, applyMove_params hanswer]

/-- A scan in progress has attempts left. -/
theorem not_scanning_of_remaining_le_one (hinv : s.Inv) (hs : s.remaining ≤ 1) : s.fsm ≠ .scanReq ∧ s.fsm ≠ .backoff := by
  obtain ⟨-, ⟨-, -, -, hscan, -⟩, -⟩ := hinv
  refine ⟨fun hf => ?_, fun hf => ?_⟩
  · obtain ⟨hlt, -⟩ := hscan hf
    rw [remaining_of_scanReq hf] at hs
    omega
  · rw [remaining_of_backoff hf] at hs
    omega

/-- Settles O34: the budget bounds the measure of a scan, in BACKOFF because an attempt was made. -/
theorem everyScanEnds : Obligations.EveryScanEnds := by
  intro s as ag hinv hr hscanning hlen hag
  have hs : s.remaining ≤ 2 * as.length + 1 := by
    obtain hf | hf := hscanning
    · rw [remaining_of_scanReq hf]
      omega
    · obtain ⟨-, ⟨-, -, -, -, hback, -⟩, -⟩ := id hinv
      obtain ⟨hone, hlt, -⟩ := hback hf
      rw [remaining_of_backoff hf]
      omega
  obtain ⟨t, ht, htinv, htparams, htrem⟩ := applyMoves_fairAnswers as hinv hr hs
  obtain ⟨hscan, hback⟩ := not_scanning_of_remaining_le_one htinv htrem
  obtain ⟨-, ⟨-, hle, -⟩, -⟩ := htinv
  refine ⟨_, run_of_agenda ?_ hag ht, hscan, hback, htparams ▸ hle⟩
  rw [length_fairAnswers, hlen]

/-! ## Every accepted request completes -/

/-- A legal request's accept step completes it, or starts its scan. -/
theorem exec_completes_or_scans {i : Instr} (h : exec i s = .next t) :
    (t.fsm = .idle ∧ t.done = true) ∨ (scans i ∧ t.fsm = .scanReq ∧ t.curOp = i.op) := by
  obtain ⟨_, _, _, -, -, hu⟩ | ⟨_, _, _, -, -, hu⟩ | ⟨_, _, _, -, -, hu⟩ | ⟨_, _, _, -, -, hu⟩ | ⟨_, _, _, -, hu⟩ |
    ⟨_, _, _, rfl, hu⟩ | ⟨_, _, _, rfl, hu⟩ | ⟨_, _, _, -, -, hu⟩ | ⟨_, _, _, -, -, hu⟩ := exec_cases i s <;>
    obtain rfl := next_eq_iff.1 (hu.symm.trans h)
  case inr.inr.inr.inr.inr.inl => exact .inr ⟨.inl rfl, rfl, rfl⟩
  case inr.inr.inr.inr.inr.inr.inl => exact .inr ⟨.inr rfl, rfl, rfl⟩
  all_goals exact .inl ⟨rfl, rfl⟩

/-- An enabled accept completes the request at once, or starts the scan of a legal one. -/
theorem accept_completes_or_scans (hc : s.canAccept = true) (h : applyMove .accept s = .next t) :
    (t.fsm = .idle ∧ t.done = true) ∨
    ∃ i, Sys2Proof.decode s.pins.reqCtrl s.pins.reqPayload = .ok i ∧ scans i ∧ t.fsm = .scanReq ∧ t.curOp = i.op := by
  rw [applyMove, if_pos hc, acceptRequest] at h
  cases hd : Sys2Proof.decode s.pins.reqCtrl s.pins.reqPayload with
  | error e =>
    rw [hd] at h
    obtain rfl := next_eq_iff.1 h
    exact .inl ⟨rfl, rfl⟩
  | ok i =>
    rw [hd] at h
    obtain hend | hscan := exec_completes_or_scans h
    · exact .inl hend
    · exact .inr ⟨i, rfl, hscan⟩

/-- With RST = 0 a busy block keeps CUR_OP. -/
theorem curOp_of_busy (hbusy : s.busy = true) (hr : s.pins.rst = false) (h : applyMove m s = .next t) : t.curOp = s.curOp := by
  have hidle : s.fsm ≠ .idle := by simpa [State.busy] using hbusy
  obtain rfl | ⟨-, hc, -⟩ | ⟨-, hc, -⟩ | ⟨a, -, -, -, rfl⟩ | ⟨a, -, -, -, rfl⟩ | ⟨-, -, -, rfl⟩ | ⟨-, -, hrst, -⟩ |
    ⟨bs, -, rfl⟩ | ⟨p, -, rfl⟩ := applyMove_cases h
  · rfl
  · exact absurd ((canAccept_iff s).1 hc).2.2.1 hidle
  · exact absurd ((canAccept_iff s).1 hc).2.2.1 hidle
  · simp
  · simp
  · simp
  · simp [hr] at hrst
  · rfl
  · rfl

theorem remaining_of_sameBlock (hs : SameBlock s t) (hp : t.params = s.params) : t.remaining = s.remaining := by
  obtain ⟨hfsm, -, hatt, -⟩ := hs
  rw [State.remaining, State.remaining, hfsm, hatt, hp]

section
variable {mv : Nat → Move} {σ : Nat → State} {n : Nat}

/-- The invariant holds along a run. -/
theorem inv_of_isRun (hrun : isRun mv σ) (hinv : (σ n).Inv) {m : Nat} (hm : n ≤ m) : (σ m).Inv := by
  induction m, hm using Nat.le_induction with
  | base => exact hinv
  | succ k _ ih => exact inv_applyMove ih (hrun k)

/-- Under weak fairness of what its FSM state waits for, a block that stays busy comes nearer to its end. -/
theorem exists_remaining_lt (hrun : isRun mv σ) (hinv : ∀ m, n ≤ m → (σ m).Inv) (hr : ∀ m, n ≤ m → (σ m).pins.rst = false)
    (hbusy : ∀ m, n ≤ m → (σ m).busy = true)
    (hfair : weaklyFair (σ n).fsm (σ n).fsm.waitsFor mv σ) : ∃ m, n ≤ m ∧ (σ m).remaining < (σ n).remaining := by
  by_contra hnone
  have hge (m : Nat) (hm : n ≤ m) : (σ n).remaining ≤ (σ m).remaining := not_lt.1 fun hlt => hnone ⟨m, hm, hlt⟩
  have hstays (m : Nat) (hm : n ≤ m) : (σ m).fsm = (σ n).fsm ∧ (σ m).remaining = (σ n).remaining := by
    induction m, hm using Nat.le_induction with
    | base => exact ⟨rfl, rfl⟩
    | succ k hk ih =>
      obtain ⟨hfsm, hrem⟩ := ih
      by_cases hwaits : (σ k).fsm.waitsFor (mv k)
      · have hlt := remaining_lt_of_awaited (hinv k hk) (hr k hk) hwaits (hrun k)
        have hle := hge (k + 1) (by omega)
        omega
      · have hsame := sameBlock_of_not_awaited (hbusy k hk) (hr k hk) hwaits (hrun k)
        have hparams := applyMove_params (hrun k)
        exact ⟨hsame.1.symm.trans hfsm, (remaining_of_sameBlock hsame hparams).trans hrem⟩
  obtain ⟨k, hk, htaken⟩ := hfair n fun m hm => ⟨(hstays m hm).1, hr m hm⟩
  obtain ⟨hfsm, hrem⟩ := hstays k hk
  have hlt := remaining_lt_of_awaited (hinv k hk) (hr k hk) (hfsm ▸ htaken) (hrun k)
  have hle := hge (k + 1) (by omega)
  omega

/-- So it does not stay busy, if every state it passes through is treated fairly. -/
theorem exists_idle (hrun : isRun mv σ) (hinv : ∀ m, n ≤ m → (σ m).Inv) (hr : ∀ m, n ≤ m → (σ m).pins.rst = false)
    (hfair : (∀ m, n ≤ m → (σ m).busy = true) → ∀ m, n ≤ m → weaklyFair (σ m).fsm (σ m).fsm.waitsFor mv σ) :
    ∃ m, n ≤ m ∧ (σ m).fsm = .idle := by
  by_contra hnone
  have hbusy (m : Nat) (hm : n ≤ m) : (σ m).busy = true := by
    simpa [State.busy] using fun hf : (σ m).fsm = .idle => hnone ⟨m, hm, hf⟩
  have hdescend (k : Nat) : ∀ m, n ≤ m → (σ m).remaining ≠ k := by
    induction k using Nat.strong_induction_on with
    | _ k ih =>
      rintro m hm rfl
      obtain ⟨m', hm', hlt⟩ := exists_remaining_lt hrun (fun j hj => hinv j (hm.trans hj)) (fun j hj => hr j (hm.trans hj))
        (fun j hj => hbusy j (hm.trans hj)) (hfair hbusy m hm)
      exact ih _ hlt m' (hm.trans hm') rfl
  exact hdescend _ n le_rfl rfl

/-- The first IDLE state after a scan's start has DONE = 1, and no state before it. -/
theorem exists_first_done (hrun : isRun mv σ) (hinv : ∀ m, n ≤ m → (σ m).Inv) (hr : ∀ m, n ≤ m → (σ m).pins.rst = false)
    (hstart : (σ n).fsm ≠ .idle) (hidle : ∃ m, n ≤ m ∧ (σ m).fsm = .idle) :
    ∃ m, n < m ∧ (σ m).fsm = .idle ∧ (σ m).done = true ∧ ∀ k, n ≤ k → k < m → (σ k).done = false := by
  classical
  obtain ⟨hm, hfsm⟩ := Nat.find_spec hidle
  have hbusy (k : Nat) (hk : n ≤ k) (hlt : k < Nat.find hidle) : (σ k).busy = true := by
    simpa [State.busy] using fun hf => Nat.find_min hidle hlt ⟨hk, hf⟩
  have hne : n ≠ Nat.find hidle := fun heq => hstart (heq ▸ hfsm)
  obtain ⟨k, hk⟩ : ∃ k, Nat.find hidle = k + 1 := ⟨Nat.find hidle - 1, by omega⟩
  have hend : (σ (k + 1)).busy = false := busy_of_idle (hk ▸ hfsm)
  have hnoreset : ¬((∃ lost, mv k = .reset lost) ∧ (σ k).pins.rst = true) := by simp [hr k (by omega)]
  have hregs := endRegisters_applyMove (hinv k (by omega)) (hrun k) (hbusy k (by omega) (by omega)) hend hnoreset
  refine ⟨k + 1, by omega, hk ▸ hfsm, hregs.1, fun j hj hlt => ?_⟩
  obtain ⟨hdone, -⟩ := inv_busy (hinv j hj) (hbusy j hj (by omega))
  exact hdone

end

/-- Settles O35: a request that its accept does not complete scans; its scan ends by the measure, first in an IDLE state. -/
theorem everyRequestCompletesUnderFairness : Obligations.EveryRequestCompletesUnderFairness := by
  intro mv σ n hrun hinv hmv hc hr hfair
  have haccept : applyMove .accept (σ n) = .next (σ (n + 1)) := hmv ▸ hrun n
  obtain ⟨hfsm, hdone⟩ | ⟨i, hdec, hscans, hfsm, hop⟩ := accept_completes_or_scans hc haccept
  · exact ⟨n + 1, by omega, hfsm, hdone, fun k _ _ => by omega⟩
  · have hinv' (m : Nat) (hm : n + 1 ≤ m) : (σ m).Inv := inv_of_isRun hrun hinv (by omega)
    have hr' (m : Nat) (hm : n + 1 ≤ m) : (σ m).pins.rst = false := hr m (by omega)
    obtain ⟨hfairScan, hfairBody⟩ := hfair i hdec
    obtain ⟨hscan, hexpiry⟩ := hfairScan hscans
    have hends : ∃ m, n + 1 ≤ m ∧ (σ m).fsm = .idle := by
      refine exists_idle hrun hinv' hr' fun hbusy m hm => ?_
      have hcur : (σ m).curOp = i.op := by
        induction m, hm using Nat.le_induction with
        | base => exact hop
        | succ k hk ih => exact (curOp_of_busy (hbusy k hk) (hr' k hk) (hrun k)).trans ih
      cases hf : (σ m).fsm with
      | scanReq => exact hscan
      | backoff => exact hexpiry
      | bodyReq =>
        obtain ⟨-, ⟨-, -, -, -, -, hbody⟩, -⟩ := hinv' m hm
        obtain ⟨-, h5, -⟩ := hbody hf
        exact hfairBody (hcur.symm.trans h5)
      | idle => exact absurd (busy_of_idle hf) (by simp [hbusy m hm])
    obtain ⟨m, hm, hidle, hdone, hfirst⟩ := exists_first_done hrun hinv' hr' (by simp [hfsm]) hends
    exact ⟨m, by omega, hidle, hdone, fun k hk => hfirst k hk⟩

end Sys2Proof.Machine
end
